-- ==== Sys2Proof/Word.lean ====
section
/-! DEFINITION. The two bit-vector widths of the block (00_scope.md R6, R8): bytes of the two memories, and the
16-bit codeword field and lookahead window. Every other quantity is a mathematical integer (R8, R388). -/

namespace Sys2Proof

/-- A byte; bit 7 is its most significant bit (R8). -/
abbrev Byte := BitVec 8

/-- A codeword field or a lookahead window; bit 15 is the first bit of the stream (R8, R10). -/
abbrev Word := BitVec 16

end Sys2Proof
end

