-- ==== Sys2Proof/Syntax.lean ====
section
/-! DEFINITION. The codewords (one constructor per row of spec/opcode_table.json), their operands, and the
contexts in which they are read. -/

namespace Sys2Proof

/-- An abstract colour (00_scope.md R9). A colour is never a byte. -/
inductive Colour where
  | white
  | black
deriving DecidableEq, Repr

/-- `opp` of 00_scope.md R9. -/
def Colour.opp : Colour → Colour
  | .white => .black
  | .black => .white

/-- A Code (00_scope.md R10): the significant bits left-aligned in a 16-bit field, and how many they are. -/
structure Code where
  codeword : Word
  length : Nat
deriving DecidableEq, Repr

/-- What a codeword stands for (30_encoding.md R90, R97, R98): the operand carried by its name, since no codeword
has an operand field. -/
inductive Operand where
  /-- A terminal code of a colour and its stored run length (R122). -/
  | terminal (c : Colour) (run : Nat)
  /-- A makeup code of a colour and its stored run length (R123). -/
  | makeup (c : Colour) (run : Nat)
  /-- A makeup code of both colours (R124). -/
  | shared (run : Nat)
  /-- Pass mode (R430). -/
  | pass
  /-- Horizontal mode (R431). -/
  | horizontal
  /-- Vertical mode with the offset `a1 - b1` (R427). -/
  | vertical (d : Int)
  /-- A synchronisation code; `none` is plain EOL, `some t` carries the tag bit `t` (R91). -/
  | eol (tag : Option Bool)
deriving DecidableEq, Repr

/-- The 207 codewords of 30_encoding.md R93, in the order of spec/opcode_table.json. -/
inductive Instr where
  /-- R140: white terminal code, run 0. -/
  | w0
  /-- R141: white terminal code, run 1. -/
  | w1
  /-- R142: white terminal code, run 2. -/
  | w2
  /-- R143: white terminal code, run 3. -/
  | w3
  /-- R144: white terminal code, run 4. -/
  | w4
  /-- R145: white terminal code, run 5. -/
  | w5
  /-- R146: white terminal code, run 6. -/
  | w6
  /-- R147: white terminal code, run 7. -/
  | w7
  /-- R148: white terminal code, run 8. -/
  | w8
  /-- R149: white terminal code, run 9. -/
  | w9
  /-- R150: white terminal code, run 10. -/
  | w10
  /-- R151: white terminal code, run 11. -/
  | w11
  /-- R152: white terminal code, run 12. -/
  | w12
  /-- R153: white terminal code, run 13. -/
  | w13
  /-- R154: white terminal code, run 14. -/
  | w14
  /-- R155: white terminal code, run 15. -/
  | w15
  /-- R156: white terminal code, run 16. -/
  | w16
  /-- R157: white terminal code, run 17. -/
  | w17
  /-- R158: white terminal code, run 18. -/
  | w18
  /-- R159: white terminal code, run 19. -/
  | w19
  /-- R160: white terminal code, run 20. -/
  | w20
  /-- R161: white terminal code, run 21. -/
  | w21
  /-- R162: white terminal code, run 22. -/
  | w22
  /-- R163: white terminal code, run 23. -/
  | w23
  /-- R164: white terminal code, run 24. -/
  | w24
  /-- R165: white terminal code, run 25. -/
  | w25
  /-- R166: white terminal code, run 26. -/
  | w26
  /-- R167: white terminal code, run 27. -/
  | w27
  /-- R168: white terminal code, run 28. -/
  | w28
  /-- R169: white terminal code, run 29. -/
  | w29
  /-- R170: white terminal code, run 30. -/
  | w30
  /-- R171: white terminal code, run 31. -/
  | w31
  /-- R172: white terminal code, run 32. -/
  | w32
  /-- R173: white terminal code, run 33. -/
  | w33
  /-- R174: white terminal code, run 34. -/
  | w34
  /-- R175: white terminal code, run 35. -/
  | w35
  /-- R176: white terminal code, run 36. -/
  | w36
  /-- R177: white terminal code, run 37. -/
  | w37
  /-- R178: white terminal code, run 38. -/
  | w38
  /-- R179: white terminal code, run 39. -/
  | w39
  /-- R180: white terminal code, run 40. -/
  | w40
  /-- R181: white terminal code, run 41. -/
  | w41
  /-- R182: white terminal code, run 42. -/
  | w42
  /-- R183: white terminal code, run 43. -/
  | w43
  /-- R184: white terminal code, run 44. -/
  | w44
  /-- R185: white terminal code, run 45. -/
  | w45
  /-- R186: white terminal code, run 46. -/
  | w46
  /-- R187: white terminal code, run 47. -/
  | w47
  /-- R188: white terminal code, run 48. -/
  | w48
  /-- R189: white terminal code, run 49. -/
  | w49
  /-- R190: white terminal code, run 50. -/
  | w50
  /-- R191: white terminal code, run 51. -/
  | w51
  /-- R192: white terminal code, run 52. -/
  | w52
  /-- R193: white terminal code, run 53. -/
  | w53
  /-- R194: white terminal code, run 54. -/
  | w54
  /-- R195: white terminal code, run 55. -/
  | w55
  /-- R196: white terminal code, run 56. -/
  | w56
  /-- R197: white terminal code, run 57. -/
  | w57
  /-- R198: white terminal code, run 58. -/
  | w58
  /-- R199: white terminal code, run 59. -/
  | w59
  /-- R200: white terminal code, run 60. -/
  | w60
  /-- R201: white terminal code, run 61. -/
  | w61
  /-- R202: white terminal code, run 62. -/
  | w62
  /-- R203: white terminal code, run 63. -/
  | w63
  /-- R240: black terminal code, run 0. -/
  | b0
  /-- R241: black terminal code, run 1. -/
  | b1
  /-- R242: black terminal code, run 2. -/
  | b2
  /-- R243: black terminal code, run 3. -/
  | b3
  /-- R244: black terminal code, run 4. -/
  | b4
  /-- R245: black terminal code, run 5. -/
  | b5
  /-- R246: black terminal code, run 6. -/
  | b6
  /-- R247: black terminal code, run 7. -/
  | b7
  /-- R248: black terminal code, run 8. -/
  | b8
  /-- R249: black terminal code, run 9. -/
  | b9
  /-- R250: black terminal code, run 10. -/
  | b10
  /-- R251: black terminal code, run 11. -/
  | b11
  /-- R252: black terminal code, run 12. -/
  | b12
  /-- R253: black terminal code, run 13. -/
  | b13
  /-- R254: black terminal code, run 14. -/
  | b14
  /-- R255: black terminal code, run 15. -/
  | b15
  /-- R256: black terminal code, run 16. -/
  | b16
  /-- R257: black terminal code, run 17. -/
  | b17
  /-- R258: black terminal code, run 18. -/
  | b18
  /-- R259: black terminal code, run 19. -/
  | b19
  /-- R260: black terminal code, run 20. -/
  | b20
  /-- R261: black terminal code, run 21. -/
  | b21
  /-- R262: black terminal code, run 22. -/
  | b22
  /-- R263: black terminal code, run 23. -/
  | b23
  /-- R264: black terminal code, run 24. -/
  | b24
  /-- R265: black terminal code, run 25. -/
  | b25
  /-- R266: black terminal code, run 26. -/
  | b26
  /-- R267: black terminal code, run 27. -/
  | b27
  /-- R268: black terminal code, run 28. -/
  | b28
  /-- R269: black terminal code, run 29. -/
  | b29
  /-- R270: black terminal code, run 30. -/
  | b30
  /-- R271: black terminal code, run 31. -/
  | b31
  /-- R272: black terminal code, run 32. -/
  | b32
  /-- R273: black terminal code, run 33. -/
  | b33
  /-- R274: black terminal code, run 34. -/
  | b34
  /-- R275: black terminal code, run 35. -/
  | b35
  /-- R276: black terminal code, run 36. -/
  | b36
  /-- R277: black terminal code, run 37. -/
  | b37
  /-- R278: black terminal code, run 38. -/
  | b38
  /-- R279: black terminal code, run 39. -/
  | b39
  /-- R280: black terminal code, run 40. -/
  | b40
  /-- R281: black terminal code, run 41. -/
  | b41
  /-- R282: black terminal code, run 42. -/
  | b42
  /-- R283: black terminal code, run 43. -/
  | b43
  /-- R284: black terminal code, run 44. -/
  | b44
  /-- R285: black terminal code, run 45. -/
  | b45
  /-- R286: black terminal code, run 46. -/
  | b46
  /-- R287: black terminal code, run 47. -/
  | b47
  /-- R288: black terminal code, run 48. -/
  | b48
  /-- R289: black terminal code, run 49. -/
  | b49
  /-- R290: black terminal code, run 50. -/
  | b50
  /-- R291: black terminal code, run 51. -/
  | b51
  /-- R292: black terminal code, run 52. -/
  | b52
  /-- R293: black terminal code, run 53. -/
  | b53
  /-- R294: black terminal code, run 54. -/
  | b54
  /-- R295: black terminal code, run 55. -/
  | b55
  /-- R296: black terminal code, run 56. -/
  | b56
  /-- R297: black terminal code, run 57. -/
  | b57
  /-- R298: black terminal code, run 58. -/
  | b58
  /-- R299: black terminal code, run 59. -/
  | b59
  /-- R300: black terminal code, run 60. -/
  | b60
  /-- R301: black terminal code, run 61. -/
  | b61
  /-- R302: black terminal code, run 62. -/
  | b62
  /-- R303: black terminal code, run 63. -/
  | b63
  /-- R204: white makeup code, run 64. -/
  | wm64
  /-- R205: white makeup code, run 128. -/
  | wm128
  /-- R206: white makeup code, run 192. -/
  | wm192
  /-- R207: white makeup code, run 256. -/
  | wm256
  /-- R208: white makeup code, run 320. -/
  | wm320
  /-- R209: white makeup code, run 384. -/
  | wm384
  /-- R210: white makeup code, run 448. -/
  | wm448
  /-- R211: white makeup code, run 512. -/
  | wm512
  /-- R212: white makeup code, run 576. -/
  | wm576
  /-- R213: white makeup code, run 640. -/
  | wm640
  /-- R214: white makeup code, run 704. -/
  | wm704
  /-- R215: white makeup code, run 768. -/
  | wm768
  /-- R216: white makeup code, run 832. -/
  | wm832
  /-- R217: white makeup code, run 896. -/
  | wm896
  /-- R218: white makeup code, run 960. -/
  | wm960
  /-- R219: white makeup code, run 1024. -/
  | wm1024
  /-- R220: white makeup code, run 1088. -/
  | wm1088
  /-- R221: white makeup code, run 1152. -/
  | wm1152
  /-- R222: white makeup code, run 1216. -/
  | wm1216
  /-- R223: white makeup code, run 1280. -/
  | wm1280
  /-- R224: white makeup code, run 1344. -/
  | wm1344
  /-- R225: white makeup code, run 1408. -/
  | wm1408
  /-- R226: white makeup code, run 1472. -/
  | wm1472
  /-- R227: white makeup code, run 1536. -/
  | wm1536
  /-- R228: white makeup code, run 1600. -/
  | wm1600
  /-- R229: white makeup code, run 1664. -/
  | wm1664
  /-- R230: white makeup code, run 1728. -/
  | wm1728
  /-- R304: black makeup code, run 64. -/
  | bm64
  /-- R305: black makeup code, run 128. -/
  | bm128
  /-- R306: black makeup code, run 192. -/
  | bm192
  /-- R307: black makeup code, run 256. -/
  | bm256
  /-- R308: black makeup code, run 320. -/
  | bm320
  /-- R309: black makeup code, run 384. -/
  | bm384
  /-- R310: black makeup code, run 448. -/
  | bm448
  /-- R311: black makeup code, run 512. -/
  | bm512
  /-- R312: black makeup code, run 576. -/
  | bm576
  /-- R313: black makeup code, run 640. -/
  | bm640
  /-- R314: black makeup code, run 704. -/
  | bm704
  /-- R315: black makeup code, run 768. -/
  | bm768
  /-- R316: black makeup code, run 832. -/
  | bm832
  /-- R317: black makeup code, run 896. -/
  | bm896
  /-- R318: black makeup code, run 960. -/
  | bm960
  /-- R319: black makeup code, run 1024. -/
  | bm1024
  /-- R320: black makeup code, run 1088. -/
  | bm1088
  /-- R321: black makeup code, run 1152. -/
  | bm1152
  /-- R322: black makeup code, run 1216. -/
  | bm1216
  /-- R323: black makeup code, run 1280. -/
  | bm1280
  /-- R324: black makeup code, run 1344. -/
  | bm1344
  /-- R325: black makeup code, run 1408. -/
  | bm1408
  /-- R326: black makeup code, run 1472. -/
  | bm1472
  /-- R327: black makeup code, run 1536. -/
  | bm1536
  /-- R328: black makeup code, run 1600. -/
  | bm1600
  /-- R329: black makeup code, run 1664. -/
  | bm1664
  /-- R330: black makeup code, run 1728. -/
  | bm1728
  /-- R340: shared makeup code, run 1792. -/
  | xm1792
  /-- R341: shared makeup code, run 1856. -/
  | xm1856
  /-- R342: shared makeup code, run 1920. -/
  | xm1920
  /-- R343: shared makeup code, run 1984. -/
  | xm1984
  /-- R344: shared makeup code, run 2048. -/
  | xm2048
  /-- R345: shared makeup code, run 2112. -/
  | xm2112
  /-- R346: shared makeup code, run 2176. -/
  | xm2176
  /-- R347: shared makeup code, run 2240. -/
  | xm2240
  /-- R348: shared makeup code, run 2304. -/
  | xm2304
  /-- R349: shared makeup code, run 2368. -/
  | xm2368
  /-- R350: shared makeup code, run 2432. -/
  | xm2432
  /-- R351: shared makeup code, run 2496. -/
  | xm2496
  /-- R352: shared makeup code, run 2560. -/
  | xm2560
  /-- R430: pass mode. -/
  | p
  /-- R431: horizontal mode. -/
  | h
  /-- R432: vertical mode, offset 0. -/
  | v0
  /-- R433: vertical mode, offset 1. -/
  | vr1
  /-- R434: vertical mode, offset 2. -/
  | vr2
  /-- R435: vertical mode, offset 3. -/
  | vr3
  /-- R436: vertical mode, offset -1. -/
  | vl1
  /-- R437: vertical mode, offset -2. -/
  | vl2
  /-- R438: vertical mode, offset -3. -/
  | vl3
  /-- R470: end of line. -/
  | eol
  /-- R471: end of line, tag 0. -/
  | eol0
  /-- R472: end of line, tag 1. -/
  | eol1
deriving DecidableEq, Repr

/-- Which synchronisation codes are looked for at a row boundary (48_frame_sync_controller.md R474, R480). -/
inductive SyncSet where
  /-- `K ≤ 0`: `EOL`. -/
  | eol
  /-- `K > 0`, a 1D row is due: `EOL1`. -/
  | eol1
  /-- `K > 0`, a 2D row is due: `EOL0`, and `EOL1` as the unit of the terminator. -/
  | eol0OrEol1
deriving DecidableEq, Repr

/-- The decode contexts of 30_encoding.md R92. -/
inductive Context where
  | white
  | black
  | ctrl2d
  | sync (set : SyncSet)
deriving DecidableEq, Repr

/-- The context in which run codes of a colour are read. -/
def Context.ofColour : Colour → Context
  | .white => .white
  | .black => .black

end Sys2Proof
end

