-- ==== Sys2Proof/WellFormed.lean ====
section
/-! DEFINITION. When a Code, an operand and a row of the opcode table are well formed (00_scope.md R6, R10;
30_encoding.md R90). -/

namespace Sys2Proof

/-- R10: `mask` of a Code, `(0xFFFF << (16 - length)) & 0xFFFF`. -/
def Code.mask (k : Code) : Word := 0xFFFF#16 <<< (16 - k.length)

/-- R10: the length is 1 .. 13 and the `16 - length` low bits of the field are zero. -/
def Code.wf (k : Code) : Bool :=
  decide (1 ≤ k.length) && decide (k.length ≤ 13) && (k.codeword &&& k.mask == k.codeword)

/-- R6, R97, R98: the run lengths and offsets that exist. -/
def Operand.wf : Operand → Bool
  | .terminal _ r => decide (r ≤ 63)
  | .makeup _ r => decide (64 ≤ r) && decide (r ≤ 1728) && r % 64 == 0
  | .shared r => decide (1792 ≤ r) && decide (r ≤ 2560) && r % 64 == 0
  | .vertical d => decide (-3 ≤ d) && decide (d ≤ 3)
  | .pass | .horizontal | .eol _ => true

/-- R90: the lengths each format has. -/
def Operand.admitsLength : Operand → Nat → Bool
  | .terminal _ _, n | .makeup _ _, n | .shared _, n => decide (2 ≤ n) && decide (n ≤ 13)
  | .pass, n => n == 4
  | .horizontal, n => n == 3
  | .vertical d, n =>
    n == (match d.natAbs with | 0 => 1 | 1 => 3 | 2 => 6 | _ => 7)
  | .eol none, n => n == 12
  | .eol (some _), n => n == 13

/-- A row of the opcode table: what the codeword stands for and its bits. -/
structure TableRow where
  operand : Operand
  code : Code
deriving DecidableEq, Repr

/-- A row is well formed when its Code and its operand are and the length is one its format has. -/
def TableRow.wf (r : TableRow) : Bool :=
  r.code.wf && r.operand.wf && r.operand.admitsLength r.code.length

end Sys2Proof
end

