-- ==== Sys2Proof/Decode.lean ====
section
/-! DEFINITION. The Code Table and the three Decoding Trees as read-only constants (10_state.md R38), the decoder
(44_decoding_tree.md R363, 45_bitstream_primitives.md R386) and the encoder of one codeword (40_code_table.md R121). -/

namespace Sys2Proof

/-! ### The Code Table (R120) -/

/-- What each codeword stands for (30_encoding.md R101, `fields`). -/
def Instr.operand : Instr → Operand
  | .w0 => .terminal .white 0
  | .w1 => .terminal .white 1
  | .w2 => .terminal .white 2
  | .w3 => .terminal .white 3
  | .w4 => .terminal .white 4
  | .w5 => .terminal .white 5
  | .w6 => .terminal .white 6
  | .w7 => .terminal .white 7
  | .w8 => .terminal .white 8
  | .w9 => .terminal .white 9
  | .w10 => .terminal .white 10
  | .w11 => .terminal .white 11
  | .w12 => .terminal .white 12
  | .w13 => .terminal .white 13
  | .w14 => .terminal .white 14
  | .w15 => .terminal .white 15
  | .w16 => .terminal .white 16
  | .w17 => .terminal .white 17
  | .w18 => .terminal .white 18
  | .w19 => .terminal .white 19
  | .w20 => .terminal .white 20
  | .w21 => .terminal .white 21
  | .w22 => .terminal .white 22
  | .w23 => .terminal .white 23
  | .w24 => .terminal .white 24
  | .w25 => .terminal .white 25
  | .w26 => .terminal .white 26
  | .w27 => .terminal .white 27
  | .w28 => .terminal .white 28
  | .w29 => .terminal .white 29
  | .w30 => .terminal .white 30
  | .w31 => .terminal .white 31
  | .w32 => .terminal .white 32
  | .w33 => .terminal .white 33
  | .w34 => .terminal .white 34
  | .w35 => .terminal .white 35
  | .w36 => .terminal .white 36
  | .w37 => .terminal .white 37
  | .w38 => .terminal .white 38
  | .w39 => .terminal .white 39
  | .w40 => .terminal .white 40
  | .w41 => .terminal .white 41
  | .w42 => .terminal .white 42
  | .w43 => .terminal .white 43
  | .w44 => .terminal .white 44
  | .w45 => .terminal .white 45
  | .w46 => .terminal .white 46
  | .w47 => .terminal .white 47
  | .w48 => .terminal .white 48
  | .w49 => .terminal .white 49
  | .w50 => .terminal .white 50
  | .w51 => .terminal .white 51
  | .w52 => .terminal .white 52
  | .w53 => .terminal .white 53
  | .w54 => .terminal .white 54
  | .w55 => .terminal .white 55
  | .w56 => .terminal .white 56
  | .w57 => .terminal .white 57
  | .w58 => .terminal .white 58
  | .w59 => .terminal .white 59
  | .w60 => .terminal .white 60
  | .w61 => .terminal .white 61
  | .w62 => .terminal .white 62
  | .w63 => .terminal .white 63
  | .b0 => .terminal .black 0
  | .b1 => .terminal .black 1
  | .b2 => .terminal .black 2
  | .b3 => .terminal .black 3
  | .b4 => .terminal .black 4
  | .b5 => .terminal .black 5
  | .b6 => .terminal .black 6
  | .b7 => .terminal .black 7
  | .b8 => .terminal .black 8
  | .b9 => .terminal .black 9
  | .b10 => .terminal .black 10
  | .b11 => .terminal .black 11
  | .b12 => .terminal .black 12
  | .b13 => .terminal .black 13
  | .b14 => .terminal .black 14
  | .b15 => .terminal .black 15
  | .b16 => .terminal .black 16
  | .b17 => .terminal .black 17
  | .b18 => .terminal .black 18
  | .b19 => .terminal .black 19
  | .b20 => .terminal .black 20
  | .b21 => .terminal .black 21
  | .b22 => .terminal .black 22
  | .b23 => .terminal .black 23
  | .b24 => .terminal .black 24
  | .b25 => .terminal .black 25
  | .b26 => .terminal .black 26
  | .b27 => .terminal .black 27
  | .b28 => .terminal .black 28
  | .b29 => .terminal .black 29
  | .b30 => .terminal .black 30
  | .b31 => .terminal .black 31
  | .b32 => .terminal .black 32
  | .b33 => .terminal .black 33
  | .b34 => .terminal .black 34
  | .b35 => .terminal .black 35
  | .b36 => .terminal .black 36
  | .b37 => .terminal .black 37
  | .b38 => .terminal .black 38
  | .b39 => .terminal .black 39
  | .b40 => .terminal .black 40
  | .b41 => .terminal .black 41
  | .b42 => .terminal .black 42
  | .b43 => .terminal .black 43
  | .b44 => .terminal .black 44
  | .b45 => .terminal .black 45
  | .b46 => .terminal .black 46
  | .b47 => .terminal .black 47
  | .b48 => .terminal .black 48
  | .b49 => .terminal .black 49
  | .b50 => .terminal .black 50
  | .b51 => .terminal .black 51
  | .b52 => .terminal .black 52
  | .b53 => .terminal .black 53
  | .b54 => .terminal .black 54
  | .b55 => .terminal .black 55
  | .b56 => .terminal .black 56
  | .b57 => .terminal .black 57
  | .b58 => .terminal .black 58
  | .b59 => .terminal .black 59
  | .b60 => .terminal .black 60
  | .b61 => .terminal .black 61
  | .b62 => .terminal .black 62
  | .b63 => .terminal .black 63
  | .wm64 => .makeup .white 64
  | .wm128 => .makeup .white 128
  | .wm192 => .makeup .white 192
  | .wm256 => .makeup .white 256
  | .wm320 => .makeup .white 320
  | .wm384 => .makeup .white 384
  | .wm448 => .makeup .white 448
  | .wm512 => .makeup .white 512
  | .wm576 => .makeup .white 576
  | .wm640 => .makeup .white 640
  | .wm704 => .makeup .white 704
  | .wm768 => .makeup .white 768
  | .wm832 => .makeup .white 832
  | .wm896 => .makeup .white 896
  | .wm960 => .makeup .white 960
  | .wm1024 => .makeup .white 1024
  | .wm1088 => .makeup .white 1088
  | .wm1152 => .makeup .white 1152
  | .wm1216 => .makeup .white 1216
  | .wm1280 => .makeup .white 1280
  | .wm1344 => .makeup .white 1344
  | .wm1408 => .makeup .white 1408
  | .wm1472 => .makeup .white 1472
  | .wm1536 => .makeup .white 1536
  | .wm1600 => .makeup .white 1600
  | .wm1664 => .makeup .white 1664
  | .wm1728 => .makeup .white 1728
  | .bm64 => .makeup .black 64
  | .bm128 => .makeup .black 128
  | .bm192 => .makeup .black 192
  | .bm256 => .makeup .black 256
  | .bm320 => .makeup .black 320
  | .bm384 => .makeup .black 384
  | .bm448 => .makeup .black 448
  | .bm512 => .makeup .black 512
  | .bm576 => .makeup .black 576
  | .bm640 => .makeup .black 640
  | .bm704 => .makeup .black 704
  | .bm768 => .makeup .black 768
  | .bm832 => .makeup .black 832
  | .bm896 => .makeup .black 896
  | .bm960 => .makeup .black 960
  | .bm1024 => .makeup .black 1024
  | .bm1088 => .makeup .black 1088
  | .bm1152 => .makeup .black 1152
  | .bm1216 => .makeup .black 1216
  | .bm1280 => .makeup .black 1280
  | .bm1344 => .makeup .black 1344
  | .bm1408 => .makeup .black 1408
  | .bm1472 => .makeup .black 1472
  | .bm1536 => .makeup .black 1536
  | .bm1600 => .makeup .black 1600
  | .bm1664 => .makeup .black 1664
  | .bm1728 => .makeup .black 1728
  | .xm1792 => .shared 1792
  | .xm1856 => .shared 1856
  | .xm1920 => .shared 1920
  | .xm1984 => .shared 1984
  | .xm2048 => .shared 2048
  | .xm2112 => .shared 2112
  | .xm2176 => .shared 2176
  | .xm2240 => .shared 2240
  | .xm2304 => .shared 2304
  | .xm2368 => .shared 2368
  | .xm2432 => .shared 2432
  | .xm2496 => .shared 2496
  | .xm2560 => .shared 2560
  | .p => .pass
  | .h => .horizontal
  | .v0 => .vertical 0
  | .vr1 => .vertical 1
  | .vr2 => .vertical 2
  | .vr3 => .vertical 3
  | .vl1 => .vertical (-1)
  | .vl2 => .vertical (-2)
  | .vl3 => .vertical (-3)
  | .eol => .eol none
  | .eol0 => .eol (some false)
  | .eol1 => .eol (some true)

/-- The Code of each codeword (R129): the `codeword` and length columns of 41 to 43 and 47, and R470 to R472. -/
def encode : Instr → Code
  | .w0 => ⟨0x3500, 8⟩
  | .w1 => ⟨0x1C00, 6⟩
  | .w2 => ⟨0x7000, 4⟩
  | .w3 => ⟨0x8000, 4⟩
  | .w4 => ⟨0xB000, 4⟩
  | .w5 => ⟨0xC000, 4⟩
  | .w6 => ⟨0xE000, 4⟩
  | .w7 => ⟨0xF000, 4⟩
  | .w8 => ⟨0x9800, 5⟩
  | .w9 => ⟨0xA000, 5⟩
  | .w10 => ⟨0x3800, 5⟩
  | .w11 => ⟨0x4000, 5⟩
  | .w12 => ⟨0x2000, 6⟩
  | .w13 => ⟨0x0C00, 6⟩
  | .w14 => ⟨0xD000, 6⟩
  | .w15 => ⟨0xD400, 6⟩
  | .w16 => ⟨0xA800, 6⟩
  | .w17 => ⟨0xAC00, 6⟩
  | .w18 => ⟨0x4E00, 7⟩
  | .w19 => ⟨0x1800, 7⟩
  | .w20 => ⟨0x1000, 7⟩
  | .w21 => ⟨0x2E00, 7⟩
  | .w22 => ⟨0x0600, 7⟩
  | .w23 => ⟨0x0800, 7⟩
  | .w24 => ⟨0x5000, 7⟩
  | .w25 => ⟨0x5600, 7⟩
  | .w26 => ⟨0x2600, 7⟩
  | .w27 => ⟨0x4800, 7⟩
  | .w28 => ⟨0x3000, 7⟩
  | .w29 => ⟨0x0200, 8⟩
  | .w30 => ⟨0x0300, 8⟩
  | .w31 => ⟨0x1A00, 8⟩
  | .w32 => ⟨0x1B00, 8⟩
  | .w33 => ⟨0x1200, 8⟩
  | .w34 => ⟨0x1300, 8⟩
  | .w35 => ⟨0x1400, 8⟩
  | .w36 => ⟨0x1500, 8⟩
  | .w37 => ⟨0x1600, 8⟩
  | .w38 => ⟨0x1700, 8⟩
  | .w39 => ⟨0x2800, 8⟩
  | .w40 => ⟨0x2900, 8⟩
  | .w41 => ⟨0x2A00, 8⟩
  | .w42 => ⟨0x2B00, 8⟩
  | .w43 => ⟨0x2C00, 8⟩
  | .w44 => ⟨0x2D00, 8⟩
  | .w45 => ⟨0x0400, 8⟩
  | .w46 => ⟨0x0500, 8⟩
  | .w47 => ⟨0x0A00, 8⟩
  | .w48 => ⟨0x0B00, 8⟩
  | .w49 => ⟨0x5200, 8⟩
  | .w50 => ⟨0x5300, 8⟩
  | .w51 => ⟨0x5400, 8⟩
  | .w52 => ⟨0x5500, 8⟩
  | .w53 => ⟨0x2400, 8⟩
  | .w54 => ⟨0x2500, 8⟩
  | .w55 => ⟨0x5800, 8⟩
  | .w56 => ⟨0x5900, 8⟩
  | .w57 => ⟨0x5A00, 8⟩
  | .w58 => ⟨0x5B00, 8⟩
  | .w59 => ⟨0x4A00, 8⟩
  | .w60 => ⟨0x4B00, 8⟩
  | .w61 => ⟨0x3200, 8⟩
  | .w62 => ⟨0x3300, 8⟩
  | .w63 => ⟨0x3400, 8⟩
  | .b0 => ⟨0x0DC0, 10⟩
  | .b1 => ⟨0x4000, 3⟩
  | .b2 => ⟨0xC000, 2⟩
  | .b3 => ⟨0x8000, 2⟩
  | .b4 => ⟨0x6000, 3⟩
  | .b5 => ⟨0x3000, 4⟩
  | .b6 => ⟨0x2000, 4⟩
  | .b7 => ⟨0x1800, 5⟩
  | .b8 => ⟨0x1400, 6⟩
  | .b9 => ⟨0x1000, 6⟩
  | .b10 => ⟨0x0800, 7⟩
  | .b11 => ⟨0x0A00, 7⟩
  | .b12 => ⟨0x0E00, 7⟩
  | .b13 => ⟨0x0400, 8⟩
  | .b14 => ⟨0x0700, 8⟩
  | .b15 => ⟨0x0C00, 9⟩
  | .b16 => ⟨0x05C0, 10⟩
  | .b17 => ⟨0x0600, 10⟩
  | .b18 => ⟨0x0200, 10⟩
  | .b19 => ⟨0x0CE0, 11⟩
  | .b20 => ⟨0x0D00, 11⟩
  | .b21 => ⟨0x0D80, 11⟩
  | .b22 => ⟨0x06E0, 11⟩
  | .b23 => ⟨0x0500, 11⟩
  | .b24 => ⟨0x02E0, 11⟩
  | .b25 => ⟨0x0300, 11⟩
  | .b26 => ⟨0x0CA0, 12⟩
  | .b27 => ⟨0x0CB0, 12⟩
  | .b28 => ⟨0x0CC0, 12⟩
  | .b29 => ⟨0x0CD0, 12⟩
  | .b30 => ⟨0x0680, 12⟩
  | .b31 => ⟨0x0690, 12⟩
  | .b32 => ⟨0x06A0, 12⟩
  | .b33 => ⟨0x06B0, 12⟩
  | .b34 => ⟨0x0D20, 12⟩
  | .b35 => ⟨0x0D30, 12⟩
  | .b36 => ⟨0x0D40, 12⟩
  | .b37 => ⟨0x0D50, 12⟩
  | .b38 => ⟨0x0D60, 12⟩
  | .b39 => ⟨0x0D70, 12⟩
  | .b40 => ⟨0x06C0, 12⟩
  | .b41 => ⟨0x06D0, 12⟩
  | .b42 => ⟨0x0DA0, 12⟩
  | .b43 => ⟨0x0DB0, 12⟩
  | .b44 => ⟨0x0540, 12⟩
  | .b45 => ⟨0x0550, 12⟩
  | .b46 => ⟨0x0560, 12⟩
  | .b47 => ⟨0x0570, 12⟩
  | .b48 => ⟨0x0640, 12⟩
  | .b49 => ⟨0x0650, 12⟩
  | .b50 => ⟨0x0520, 12⟩
  | .b51 => ⟨0x0530, 12⟩
  | .b52 => ⟨0x0240, 12⟩
  | .b53 => ⟨0x0370, 12⟩
  | .b54 => ⟨0x0380, 12⟩
  | .b55 => ⟨0x0270, 12⟩
  | .b56 => ⟨0x0280, 12⟩
  | .b57 => ⟨0x0580, 12⟩
  | .b58 => ⟨0x0590, 12⟩
  | .b59 => ⟨0x02B0, 12⟩
  | .b60 => ⟨0x02C0, 12⟩
  | .b61 => ⟨0x05A0, 12⟩
  | .b62 => ⟨0x0660, 12⟩
  | .b63 => ⟨0x0670, 12⟩
  | .wm64 => ⟨0xD800, 5⟩
  | .wm128 => ⟨0x9000, 5⟩
  | .wm192 => ⟨0x5C00, 6⟩
  | .wm256 => ⟨0x6E00, 7⟩
  | .wm320 => ⟨0x3600, 8⟩
  | .wm384 => ⟨0x3700, 8⟩
  | .wm448 => ⟨0x6400, 8⟩
  | .wm512 => ⟨0x6500, 8⟩
  | .wm576 => ⟨0x6800, 8⟩
  | .wm640 => ⟨0x6700, 8⟩
  | .wm704 => ⟨0x6600, 9⟩
  | .wm768 => ⟨0x6680, 9⟩
  | .wm832 => ⟨0x6900, 9⟩
  | .wm896 => ⟨0x6980, 9⟩
  | .wm960 => ⟨0x6A00, 9⟩
  | .wm1024 => ⟨0x6A80, 9⟩
  | .wm1088 => ⟨0x6B00, 9⟩
  | .wm1152 => ⟨0x6B80, 9⟩
  | .wm1216 => ⟨0x6C00, 9⟩
  | .wm1280 => ⟨0x6C80, 9⟩
  | .wm1344 => ⟨0x6D00, 9⟩
  | .wm1408 => ⟨0x6D80, 9⟩
  | .wm1472 => ⟨0x4C00, 9⟩
  | .wm1536 => ⟨0x4C80, 9⟩
  | .wm1600 => ⟨0x4D00, 9⟩
  | .wm1664 => ⟨0x6000, 6⟩
  | .wm1728 => ⟨0x4D80, 9⟩
  | .bm64 => ⟨0x03C0, 10⟩
  | .bm128 => ⟨0x0C80, 12⟩
  | .bm192 => ⟨0x0C90, 12⟩
  | .bm256 => ⟨0x05B0, 12⟩
  | .bm320 => ⟨0x0330, 12⟩
  | .bm384 => ⟨0x0340, 12⟩
  | .bm448 => ⟨0x0350, 12⟩
  | .bm512 => ⟨0x0360, 13⟩
  | .bm576 => ⟨0x0368, 13⟩
  | .bm640 => ⟨0x0250, 13⟩
  | .bm704 => ⟨0x0258, 13⟩
  | .bm768 => ⟨0x0260, 13⟩
  | .bm832 => ⟨0x0268, 13⟩
  | .bm896 => ⟨0x0390, 13⟩
  | .bm960 => ⟨0x0398, 13⟩
  | .bm1024 => ⟨0x03A0, 13⟩
  | .bm1088 => ⟨0x03A8, 13⟩
  | .bm1152 => ⟨0x03B0, 13⟩
  | .bm1216 => ⟨0x03B8, 13⟩
  | .bm1280 => ⟨0x0290, 13⟩
  | .bm1344 => ⟨0x0298, 13⟩
  | .bm1408 => ⟨0x02A0, 13⟩
  | .bm1472 => ⟨0x02A8, 13⟩
  | .bm1536 => ⟨0x02D0, 13⟩
  | .bm1600 => ⟨0x02D8, 13⟩
  | .bm1664 => ⟨0x0320, 13⟩
  | .bm1728 => ⟨0x0328, 13⟩
  | .xm1792 => ⟨0x0100, 11⟩
  | .xm1856 => ⟨0x0180, 11⟩
  | .xm1920 => ⟨0x01A0, 11⟩
  | .xm1984 => ⟨0x0120, 12⟩
  | .xm2048 => ⟨0x0130, 12⟩
  | .xm2112 => ⟨0x0140, 12⟩
  | .xm2176 => ⟨0x0150, 12⟩
  | .xm2240 => ⟨0x0160, 12⟩
  | .xm2304 => ⟨0x0170, 12⟩
  | .xm2368 => ⟨0x01C0, 12⟩
  | .xm2432 => ⟨0x01D0, 12⟩
  | .xm2496 => ⟨0x01E0, 12⟩
  | .xm2560 => ⟨0x01F0, 12⟩
  | .p => ⟨0x1000, 4⟩
  | .h => ⟨0x2000, 3⟩
  | .v0 => ⟨0x8000, 1⟩
  | .vr1 => ⟨0x6000, 3⟩
  | .vr2 => ⟨0x0C00, 6⟩
  | .vr3 => ⟨0x0600, 7⟩
  | .vl1 => ⟨0x4000, 3⟩
  | .vl2 => ⟨0x0800, 6⟩
  | .vl3 => ⟨0x0400, 7⟩
  | .eol => ⟨0x0010, 12⟩
  | .eol0 => ⟨0x0010, 13⟩
  | .eol1 => ⟨0x0018, 13⟩

/-- The opcode table's row of a codeword. -/
def Instr.row (i : Instr) : TableRow := ⟨i.operand, encode i⟩

/-- Every codeword carries its operand in its name, so this is a check of the table, not of a term. -/
def Instr.wf (i : Instr) : Bool := i.row.wf

/-- The stored run length (R97); 0 for a control code is the placeholder of 44_decoding_tree.md R364. -/
def Instr.runLength (i : Instr) : Nat :=
  match i.operand with
  | .terminal _ r | .makeup _ r | .shared r => r
  | .pass | .horizontal | .vertical _ | .eol _ => 0

/-- The white terminal mapping of R120, in order of run length. -/
def whiteTerminals : List Instr :=
  [.w0, .w1, .w2, .w3, .w4, .w5, .w6, .w7, .w8, .w9, .w10, .w11, .w12, .w13, .w14, .w15, .w16, .w17,
   .w18, .w19, .w20, .w21, .w22, .w23, .w24, .w25, .w26, .w27, .w28, .w29, .w30, .w31, .w32, .w33,
   .w34, .w35, .w36, .w37, .w38, .w39, .w40, .w41, .w42, .w43, .w44, .w45, .w46, .w47, .w48, .w49,
   .w50, .w51, .w52, .w53, .w54, .w55, .w56, .w57, .w58, .w59, .w60, .w61, .w62, .w63]

/-- The black terminal mapping of R120. -/
def blackTerminals : List Instr :=
  [.b0, .b1, .b2, .b3, .b4, .b5, .b6, .b7, .b8, .b9, .b10, .b11, .b12, .b13, .b14, .b15, .b16, .b17,
   .b18, .b19, .b20, .b21, .b22, .b23, .b24, .b25, .b26, .b27, .b28, .b29, .b30, .b31, .b32, .b33,
   .b34, .b35, .b36, .b37, .b38, .b39, .b40, .b41, .b42, .b43, .b44, .b45, .b46, .b47, .b48, .b49,
   .b50, .b51, .b52, .b53, .b54, .b55, .b56, .b57, .b58, .b59, .b60, .b61, .b62, .b63]

/-- The white makeup mapping of R120, 64, 128, .., 1728. -/
def whiteMakeups : List Instr :=
  [.wm64, .wm128, .wm192, .wm256, .wm320, .wm384, .wm448, .wm512, .wm576, .wm640, .wm704, .wm768,
   .wm832, .wm896, .wm960, .wm1024, .wm1088, .wm1152, .wm1216, .wm1280, .wm1344, .wm1408, .wm1472,
   .wm1536, .wm1600, .wm1664, .wm1728]

/-- The black makeup mapping of R120. -/
def blackMakeups : List Instr :=
  [.bm64, .bm128, .bm192, .bm256, .bm320, .bm384, .bm448, .bm512, .bm576, .bm640, .bm704, .bm768,
   .bm832, .bm896, .bm960, .bm1024, .bm1088, .bm1152, .bm1216, .bm1280, .bm1344, .bm1408, .bm1472,
   .bm1536, .bm1600, .bm1664, .bm1728]

/-- The shared makeup mapping of R120, 1792, 1856, .., 2560. -/
def sharedMakeups : List Instr :=
  [.xm1792, .xm1856, .xm1920, .xm1984, .xm2048, .xm2112, .xm2176, .xm2240, .xm2304, .xm2368, .xm2432,
   .xm2496, .xm2560]

/-- The nine control codes (R120). -/
def controlCodes : List Instr :=
  [.p, .h, .v0, .vr1, .vr2, .vr3, .vl1, .vl2, .vl3]

/-- The terminal mapping of a colour. -/
def terminals : Colour → List Instr
  | .white => whiteTerminals
  | .black => blackTerminals

/-- The makeup mapping of a colour. -/
def makeups : Colour → List Instr
  | .white => whiteMakeups
  | .black => blackMakeups

/-- `codeFor(c, r)` of R121; `none` where the mapping is undefined. -/
def codeFor (c : Colour) (r : Nat) : Option Instr :=
  if r ≤ 63 then (terminals c)[r]?
  else if r % 64 = 0 then
    if r ≤ 1728 then (makeups c)[r / 64 - 1]?
    else (sharedMakeups)[(r - 1792) / 64]?
  else none

/-- `runCodes(c, r)` of R125: the canonical chain of a run. -/
def runCodes (c : Colour) (r : Nat) : List Instr :=
  List.replicate (r / 2560) Instr.xm2560
    ++ (if 64 ≤ r % 2560 then (codeFor c (64 * (r % 2560 / 64))).toList else [])
    ++ (codeFor c (r % 2560 % 64)).toList

/-- `ctrlCode(V_d)` of R121, R439: the vertical code of an offset. -/
def verticalCode (d : Int) : Option Instr :=
  if d = 0 then some .v0
  else if d = 1 then some .vr1
  else if d = 2 then some .vr2
  else if d = 3 then some .vr3
  else if d = -1 then some .vl1
  else if d = -2 then some .vl2
  else if d = -3 then some .vl3
  else none

/-- The codewords read in a context (30_encoding.md R92, 44_decoding_tree.md R364). -/
def Context.codewords : Context → List Instr
  | .white => whiteTerminals ++ whiteMakeups ++ sharedMakeups
  | .black => blackTerminals ++ blackMakeups ++ sharedMakeups
  | .ctrl2d => controlCodes
  | .sync .eol => [.eol]
  | .sync .eol1 => [.eol1]
  | .sync .eol0OrEol1 => [.eol0, .eol1]

/-! ### The Decoding Trees (R360 to R367) -/

/-- A Decoding Tree (R360, R361). `left` is taken on a 0 bit and `right` on a 1 bit, so a node's `bit_value` is where
it hangs. The payload `(run_length, code)` of a node is named by its codeword `i`: `(i.runLength, encode i)` (log 17). -/
inductive Tree where
  | absent
  | node (payload : Option Instr) (left right : Tree)
deriving DecidableEq, Repr

/-- A node with neither payload nor children: a new root, or what `insert` creates. -/
def Tree.empty : Tree := .node none .absent .absent

/-- `insert` of R362 below a node: `k` bits of the field are left, the next is bit `15 - j`. -/
def Tree.insertFrom (w : Word) (i : Instr) : (k j : Nat) → Tree → Tree
  | 0, _, .absent => .node (some i) .absent .absent
  | 0, _, .node _ l r => .node (some i) l r
  | k + 1, j, t =>
    match t with
    | .absent =>
      if w.getLsbD (15 - j) then .node none .absent (insertFrom w i k (j + 1) .absent)
      else .node none (insertFrom w i k (j + 1) .absent) .absent
    | .node p l r =>
      if w.getLsbD (15 - j) then .node p l (insertFrom w i k (j + 1) r)
      else .node p (insertFrom w i k (j + 1) l) r

/-- `insert(tree, code, run_length)` of R362. -/
def Tree.insert (t : Tree) (i : Instr) : Tree :=
  t.insertFrom (encode i).codeword i (encode i).length 0

/-- A tree built from nothing by inserting codewords (R364, R581). -/
def Tree.build (codes : List Instr) : Tree := codes.foldl Tree.insert .empty

/-- The nodes of a tree (R365). -/
def Tree.size : Tree → Nat
  | .absent => 0
  | .node _ l r => l.size + r.size + 1

/-- The walk of R363 arriving at a node with bit `15 - j` next; `best` is the deepest match so far. -/
def Tree.walk (w : Word) : Tree → (j : Nat) → (best : Option Instr) → Option Instr
  | .absent, _, best => best
  | .node p l r, j, best =>
    if 15 < j then p.or best
    else if w.getLsbD (15 - j) then walk w r (j + 1) (p.or best)
    else walk w l (j + 1) (p.or best)

/-- `lookup(tree, bits, start_bit_offset)` of R363; the result `(run_length, code)` is named by its codeword. -/
def lookup (t : Tree) (bits : Word) (start : Nat) : Option Instr := t.walk bits start none

/-- A node that is only a branch. -/
def Tree.fork (l r : Tree) : Tree := .node none l r

/-- A payload node; it has no children, for the sets are prefix-free (R366). -/
def Tree.leaf (i : Instr) : Tree := .node (some i) .absent .absent

/-- `WHITE_TREE` of R364 as a ROM (R371): what `insert` builds (obligation TreesAreWhatInsertBuilds). -/
def whiteTree : Tree :=
  .fork
    (.fork
      (.fork
        (.fork
          (.fork
            (.fork
              (.fork
                (.fork
                  .absent
                  (.fork
                    (.fork
                      (.fork (.leaf .xm1792) (.fork (.leaf .xm1984) (.leaf .xm2048)))
                      (.fork
                        (.fork (.leaf .xm2112) (.leaf .xm2176))
                        (.fork (.leaf .xm2240) (.leaf .xm2304))))
                    (.fork
                      (.fork (.leaf .xm1856) (.leaf .xm1920))
                      (.fork
                        (.fork (.leaf .xm2368) (.leaf .xm2432))
                        (.fork (.leaf .xm2496) (.leaf .xm2560))))))
                (.fork (.leaf .w29) (.leaf .w30)))
              (.fork (.fork (.leaf .w45) (.leaf .w46)) (.leaf .w22)))
            (.fork (.fork (.leaf .w23) (.fork (.leaf .w47) (.leaf .w48))) (.leaf .w13)))
          (.fork
            (.fork
              (.fork (.leaf .w20) (.fork (.leaf .w33) (.leaf .w34)))
              (.fork (.fork (.leaf .w35) (.leaf .w36)) (.fork (.leaf .w37) (.leaf .w38))))
            (.fork (.fork (.leaf .w19) (.fork (.leaf .w31) (.leaf .w32))) (.leaf .w1))))
        (.fork
          (.fork
            (.fork (.leaf .w12) (.fork (.fork (.leaf .w53) (.leaf .w54)) (.leaf .w26)))
            (.fork
              (.fork (.fork (.leaf .w39) (.leaf .w40)) (.fork (.leaf .w41) (.leaf .w42)))
              (.fork (.fork (.leaf .w43) (.leaf .w44)) (.leaf .w21))))
          (.fork
            (.fork
              (.fork (.leaf .w28) (.fork (.leaf .w61) (.leaf .w62)))
              (.fork (.fork (.leaf .w63) (.leaf .w0)) (.fork (.leaf .wm320) (.leaf .wm384))))
            (.leaf .w10))))
      (.fork
        (.fork
          (.fork
            (.leaf .w11)
            (.fork
              (.fork (.leaf .w27) (.fork (.leaf .w59) (.leaf .w60)))
              (.fork
                (.fork
                  (.fork (.leaf .wm1472) (.leaf .wm1536))
                  (.fork (.leaf .wm1600) (.leaf .wm1728)))
                (.leaf .w18))))
          (.fork
            (.fork
              (.fork (.leaf .w24) (.fork (.leaf .w49) (.leaf .w50)))
              (.fork (.fork (.leaf .w51) (.leaf .w52)) (.leaf .w25)))
            (.fork
              (.fork (.fork (.leaf .w55) (.leaf .w56)) (.fork (.leaf .w57) (.leaf .w58)))
              (.leaf .wm192))))
        (.fork
          (.fork
            (.fork
              (.leaf .wm1664)
              (.fork
                (.fork (.leaf .wm448) (.leaf .wm512))
                (.fork (.fork (.leaf .wm704) (.leaf .wm768)) (.leaf .wm640))))
            (.fork
              (.fork
                (.fork (.leaf .wm576) (.fork (.leaf .wm832) (.leaf .wm896)))
                (.fork
                  (.fork (.leaf .wm960) (.leaf .wm1024))
                  (.fork (.leaf .wm1088) (.leaf .wm1152))))
              (.fork
                (.fork
                  (.fork (.leaf .wm1216) (.leaf .wm1280))
                  (.fork (.leaf .wm1344) (.leaf .wm1408)))
                (.leaf .wm256))))
          (.leaf .w2))))
    (.fork
      (.fork
        (.fork (.leaf .w3) (.fork (.leaf .wm128) (.leaf .w8)))
        (.fork (.fork (.leaf .w9) (.fork (.leaf .w16) (.leaf .w17))) (.leaf .w4)))
      (.fork
        (.fork (.leaf .w5) (.fork (.fork (.leaf .w14) (.leaf .w15)) (.leaf .wm64)))
        (.fork (.leaf .w6) (.leaf .w7))))

/-- `BLACK_TREE` of R364 as a ROM (R371): what `insert` builds (obligation TreesAreWhatInsertBuilds). -/
def blackTree : Tree :=
  .fork
    (.fork
      (.fork
        (.fork
          (.fork
            (.fork
              (.fork
                (.fork
                  .absent
                  (.fork
                    (.fork
                      (.fork (.leaf .xm1792) (.fork (.leaf .xm1984) (.leaf .xm2048)))
                      (.fork
                        (.fork (.leaf .xm2112) (.leaf .xm2176))
                        (.fork (.leaf .xm2240) (.leaf .xm2304))))
                    (.fork
                      (.fork (.leaf .xm1856) (.leaf .xm1920))
                      (.fork
                        (.fork (.leaf .xm2368) (.leaf .xm2432))
                        (.fork (.leaf .xm2496) (.leaf .xm2560))))))
                (.fork
                  (.fork
                    (.fork
                      (.leaf .b18)
                      (.fork
                        (.fork (.leaf .b52) (.fork (.leaf .bm640) (.leaf .bm704)))
                        (.fork (.fork (.leaf .bm768) (.leaf .bm832)) (.leaf .b55))))
                    (.fork
                      (.fork
                        (.fork (.leaf .b56) (.fork (.leaf .bm1280) (.leaf .bm1344)))
                        (.fork (.fork (.leaf .bm1408) (.leaf .bm1472)) (.leaf .b59)))
                      (.fork
                        (.fork (.leaf .b60) (.fork (.leaf .bm1536) (.leaf .bm1600)))
                        (.leaf .b24))))
                  (.fork
                    (.fork
                      (.fork
                        (.leaf .b25)
                        (.fork (.fork (.leaf .bm1664) (.leaf .bm1728)) (.leaf .bm320)))
                      (.fork
                        (.fork (.leaf .bm384) (.leaf .bm448))
                        (.fork (.fork (.leaf .bm512) (.leaf .bm576)) (.leaf .b53))))
                    (.fork
                      (.fork
                        (.fork (.leaf .b54) (.fork (.leaf .bm896) (.leaf .bm960)))
                        (.fork
                          (.fork (.leaf .bm1024) (.leaf .bm1088))
                          (.fork (.leaf .bm1152) (.leaf .bm1216))))
                      (.leaf .bm64)))))
              (.fork
                (.fork
                  (.leaf .b13)
                  (.fork
                    (.fork
                      (.fork (.leaf .b23) (.fork (.leaf .b50) (.leaf .b51)))
                      (.fork (.fork (.leaf .b44) (.leaf .b45)) (.fork (.leaf .b46) (.leaf .b47))))
                    (.fork
                      (.fork (.fork (.leaf .b57) (.leaf .b58)) (.fork (.leaf .b61) (.leaf .bm256)))
                      (.leaf .b16))))
                (.fork
                  (.fork
                    (.fork
                      (.leaf .b17)
                      (.fork (.fork (.leaf .b48) (.leaf .b49)) (.fork (.leaf .b62) (.leaf .b63))))
                    (.fork
                      (.fork (.fork (.leaf .b30) (.leaf .b31)) (.fork (.leaf .b32) (.leaf .b33)))
                      (.fork (.fork (.leaf .b40) (.leaf .b41)) (.leaf .b22))))
                  (.leaf .b14))))
            (.fork
              (.fork (.leaf .b10) (.leaf .b11))
              (.fork
                (.fork
                  (.fork
                    (.leaf .b15)
                    (.fork
                      (.fork (.fork (.leaf .bm128) (.leaf .bm192)) (.fork (.leaf .b26) (.leaf .b27)))
                      (.fork (.fork (.leaf .b28) (.leaf .b29)) (.leaf .b19))))
                  (.fork
                    (.fork
                      (.fork (.leaf .b20) (.fork (.leaf .b34) (.leaf .b35)))
                      (.fork (.fork (.leaf .b36) (.leaf .b37)) (.fork (.leaf .b38) (.leaf .b39))))
                    (.fork (.fork (.leaf .b21) (.fork (.leaf .b42) (.leaf .b43))) (.leaf .b0))))
                (.leaf .b12))))
          (.fork (.fork (.leaf .b9) (.leaf .b8)) (.leaf .b7)))
        (.fork (.leaf .b6) (.leaf .b5)))
      (.fork (.leaf .b1) (.leaf .b4)))
    (.fork (.leaf .b3) (.leaf .b2))

/-- `CTRL_TREE` of R364 as a ROM (R371): what `insert` builds (obligation TreesAreWhatInsertBuilds). -/
def ctrlTree : Tree :=
  .fork
    (.fork
      (.fork
        (.fork
          (.fork (.fork .absent (.fork (.leaf .vl3) (.leaf .vr3))) (.fork (.leaf .vl2) (.leaf .vr2)))
          (.leaf .p))
        (.leaf .h))
      (.fork (.leaf .vl1) (.leaf .vr1)))
    (.leaf .v0)

/-! ### Decoding a window -/

/-- A window spells a Code (R10): `w & mask = match`. -/
def Code.spelledBy (k : Code) (w : Word) : Bool := w &&& k.mask == k.codeword

/-- `matchAt` of 45_bitstream_primitives.md R386 on a fetched window with `avail` genuine bits. -/
def Code.matches (k : Code) (w : Word) (avail : Nat) : Bool :=
  decide (k.length ≤ avail) && k.spelledBy w

/-- Why a window is no codeword of its context (30_encoding.md R102, R105). -/
inductive Reject where
  /-- No code of the colour's tree (60_exceptions.md R543). -/
  | invalidRunCode
  /-- No control code (60_exceptions.md R542). -/
  | invalidControlCode
  /-- No marker of the scheme stands here; not an error in itself (R105). -/
  | noMarker
deriving DecidableEq, Repr

/-- What the decoder reads from a window. -/
inductive Decoded where
  | instr (i : Instr)
  | reject (why : Reject)
deriving DecidableEq, Repr

/-- The decoder: the context selects a tree or the markers looked for (R92), then the window is read (R363, R386).
In a tree context genuineness is checked by the codeword's meaning (R385); a cut marker does not match (R386). -/
def decode (c : Context) (w : Word) (avail : Nat) : Decoded :=
  match c with
  | .white => match lookup whiteTree w 0 with | some i => .instr i | none => .reject .invalidRunCode
  | .black => match lookup blackTree w 0 with | some i => .instr i | none => .reject .invalidRunCode
  | .ctrl2d => match lookup ctrlTree w 0 with | some i => .instr i | none => .reject .invalidControlCode
  | .sync .eol => if (encode .eol).matches w avail then .instr .eol else .reject .noMarker
  | .sync .eol1 => if (encode .eol1).matches w avail then .instr .eol1 else .reject .noMarker
  | .sync .eol0OrEol1 =>
    if (encode .eol0).matches w avail then .instr .eol0
    else if (encode .eol1).matches w avail then .instr .eol1
    else .reject .noMarker

/-! ### The opcode table's words -/

/-- The table's word: the 16-bit left-aligned window of R101; bits at and above `nbits` are 0. -/
def tableWindow (nbits w : Nat) : Word := BitVec.ofNat 16 (w % 2 ^ nbits)

/-- The contexts in the order in which a table word is tried (log 11). -/
def tableContexts : List Context :=
  [.ctrl2d, .sync .eol, .sync .eol1, .white, .black, .sync .eol0OrEol1]

/-- Whether a word is, in a context, one codeword with zeros after it. -/
def exactIn (w : Word) (c : Context) : Bool :=
  match decode c w 16 with
  | .instr i => (encode i).codeword == w
  | .reject _ => false

/-- How long the codeword is that a word spells in a context. -/
def spelledLength (w : Word) (c : Context) : Nat :=
  match decode c w 16 with
  | .instr i => (encode i).length
  | .reject _ => 0

/-- The context a bare table word is read in (log 11, DESIGN CHOICE): the table gives a row no context bits, and the
same bits are different codewords in different contexts (R92). First the contexts in which the word is exactly one
codeword and zeros, then the context in which it spells the longest codeword. -/
def tableContext (w : Word) : Context :=
  match tableContexts.find? (exactIn w) with
  | some c => c
  | none =>
    tableContexts.foldl (fun best c => if spelledLength w best < spelledLength w c then c else best) .white

/-- The codeword the decoder reads from a word numbered as spec/opcode_table.json numbers it. -/
def decodeTableWord (nbits w : Nat) : Option Instr :=
  match decode (tableContext (tableWindow nbits w)) (tableWindow nbits w) 16 with
  | .instr i => some i
  | .reject _ => none

end Sys2Proof
end

