-- ==== Sys2Proof/Config.lean ====
section
/-! DEFINITION. What an implementation of the block fixes (00_scope.md R7) and the values the spec leaves free. -/

namespace Sys2Proof

/-- The parameters R7 leaves open; `none` is unbounded, R7's default (log 7, DESIGN CHOICE). The base addresses of
92_eei_decisions.md D18 enter no rule and have no field. -/
structure Params where
  /-- `REGW`, the width of a register. -/
  regw : Option Nat
  /-- `CODE_BYTES`, the capacity of the code buffer. -/
  codeBytes : Option Nat
  /-- `PIX_BYTES`, the capacity of the pixel memory. -/
  pixBytes : Option Nat
deriving DecidableEq, Repr

/-- `TOL_G3` (R7; 48_frame_sync_controller.md R478): markers at a row boundary of a G3 call that are a row prefix. -/
def Config.tolG3 : Nat := 1

/-- `TOL_G4` (R7; 48_frame_sync_controller.md R478). -/
def Config.tolG4 : Nat := 0

/-- The byte at an offset of `PIX` after the `n`-th error stop: 60_exceptions.md R552 leaves it unspecified (log 9, a
free value, DESIGN CHOICE of form only: nothing constrains it). -/
opaque Config.freePixByte : (n : Nat) → (offset : Nat) → Byte

end Sys2Proof
end

