-- ==== Sys2Proof/Machine/State.lean ====
section
/-! DEFINITION. The architectural state (10_state.md R20) as plain data, why a step may stop, and the state after
reset (R43). -/

namespace Sys2Proof.Machine

/-- A byte memory: offsets strictly rising; an offset that is not listed holds no value (10_state.md R45; log 6). -/
abbrev Memory := List Host.Cell

/-- A line buffer: the colours of the cells written so far, from column 0 (10_state.md R23; log 5). -/
abbrev Line := List Colour

/-- `DIRL` (10_state.md R22, R28). -/
inductive Dir where
  | encode
  | decode
deriving DecidableEq, Repr

/-- `FSTATE` (10_state.md R40). -/
inductive FState where
  | idle
  | awaitingSync
  | decodingRow
  | rowComplete
  | terminated
deriving DecidableEq, Repr

/-- `ERR` (10_state.md R41, 60_exceptions.md R541). -/
inductive ErrKind where
  | none
  | invalidControlCode
  | invalidRunCode
  | missingEOL
  | corruptTerminatorRTC
  | corruptTerminatorEOFB
  | bufferExhausted
  | runOutOfRange
deriving DecidableEq, Repr

/-- Where the decoder stands in a horizontal pair (47_row_coder_2d.md R431, R440; log 3, DEDUCED). -/
inductive HPhase where
  /-- Not inside a horizontal pair. -/
  | none
  /-- The first run is being decoded. -/
  | first
  /-- The second run is being decoded. -/
  | second
deriving DecidableEq, Repr

/-- The two byte memories the host and the engine reach (20_memory.md R60). -/
inductive Space where
  | code
  | pix
deriving DecidableEq, Repr

/-- One host access (49_host_commands.md R526). -/
inductive Access where
  /-- Read a register of 10_state.md R26 by its number. -/
  | readReg (n : Nat)
  /-- Write a register of R26 by its number. -/
  | writeReg (n : Nat) (v : Int)
  | readMem (m : Space) (offset : Nat)
  | writeMem (m : Space) (offset : Nat) (b : Byte)
deriving DecidableEq, Repr

/-- One move of the host (log 1). -/
inductive HostMove where
  | access (a : Access)
  /-- The host makes no access in this step. -/
  | idle
  /-- The host reads `STATUS` until `BUSY = 0` (49_host_commands.md R524). -/
  | awaitDone
  /-- The block's one reset (70_reset_and_hazards.md R580). -/
  | reset
deriving DecidableEq, Repr

/-- Everything the spec gives the block, and five fields of the model's own at the end. -/
structure State where
  /-- `STATUS.BUSY` (R28). -/
  busy : Bool
  /-- `STATUS.DONE` (R28). -/
  done : Bool
  /-- `STATUS.DIRL` (R22, R28). -/
  dirl : Dir
  /-- `STATUS.FSTATE` (R28, R40). -/
  fstate : FState
  /-- `STATUS.ERR` (R28, R41). -/
  err : ErrKind
  /-- `CFG_K` (R29). -/
  cfgK : Int
  /-- `CFG_FLAGS` (R30); its reserved bits read 0 and are not stored. -/
  cfgFlags : BitVec 4
  /-- `CFG_DAMAGED` (R31). -/
  cfgDamaged : Int
  /-- `CFG_COLUMNS` (R32). -/
  cfgColumns : Int
  /-- `CFG_ROWS` (R33). -/
  cfgRows : Int
  /-- `CODE_LEN` (R34). -/
  codeLen : Int
  /-- `PIX_ROWS` (R35). -/
  pixRows : Int
  /-- `BITPOS` (R24, R36). -/
  bitpos : Nat
  /-- `COLOR` (R22, R25). -/
  color : Colour
  /-- `A0` (R22, R422). -/
  a0 : Int
  /-- `COL` (R22). -/
  col : Nat
  /-- `RUNACC` (R22). -/
  runacc : Nat
  /-- `ROWIDX` (R22). -/
  rowidx : Nat
  /-- `NROWS` (R22). -/
  nrows : Nat
  /-- `CUR` (R23). -/
  cur : Line
  /-- `REF` (R23). -/
  ref : Line
  /-- `CODE` (20_memory.md R61). -/
  code : Memory
  /-- `PIX` (20_memory.md R64). -/
  pix : Memory
  /-- The model's own: the place in a horizontal pair (log 3). -/
  hphase : HPhase
  /-- The model's own: the host's moves still to come (log 1). -/
  host : List HostMove
  /-- The model's own: what the host's last read returned (log 15). -/
  hostData : Int
  /-- The model's own: the open parameters of this block (log 7); no rule writes them. -/
  params : Params
  /-- The model's own: how many error stops have drawn free values (log 9). -/
  freeCount : Nat
deriving DecidableEq, Repr

/-- The conditions of 49_host_commands.md R523, by their letters. -/
inductive Admission where
  /-- (a) `BUSY = 0`. -/
  | a
  /-- (b) `Columns ≥ 1`. -/
  | b
  /-- (c) `Rows ≥ 0`. -/
  | c
  /-- (d) the bitmap of an encode call is complete and holds sentinels only. -/
  | d
  /-- (e) the output of an encode call fits. -/
  | e
  /-- (f) the stream of a decode call is complete. -/
  | f
  /-- (g) the rows of a decode call fit. -/
  | g
  /-- (h) a finite `REGW` holds every intermediate value. -/
  | h
deriving DecidableEq, Repr

/-- Stops that are no situation the spec speaks of. All safe: the model stops (log 14). -/
inductive Fault where
  /-- A host access names a register number outside 0 .. 9 (10_state.md R26). Raised by `hostAccess`. Safe. -/
  | noSuchRegister (n : Nat)
  /-- An access at or beyond the capacity of `CODE` or `PIX` (00_scope.md R11, 20_memory.md R69). Raised by host
  accesses and by the engine's stores; in a call that START admitted the engine never raises it. Safe. -/
  | outsideSpace (m : Space)
  /-- `BUSY = 1` in a frame state from which 48_frame_sync_controller.md R479 has no transition; no run from reset
  comes there. Raised by the engine's step. Safe. -/
  | noTransition
deriving DecidableEq, Repr

/-- Situations to which the spec gives no meaning. All safe: the model has no step for them. -/
inductive Refusal where
  /-- An instruction without a meaning in the model. Raised by `exec`'s refused arms. Safe. -/
  | notModelled (mnemonic : String)
  /-- A START that R523 does not admit; the first condition that fails is named. Raised by `hostAccess`. Safe. -/
  | startNotAdmitted (why : Admission)
  /-- A host access other than a read of `STATUS` while `BUSY = 1` (49_host_commands.md R526). Raised by `hostAccess`.
  Safe. -/
  | accessWhileBusy
  /-- A read of a byte nothing has written (10_state.md R45). Raised by fetches, merges, row loads and host reads.
  Safe. -/
  | unwrittenByte (m : Space)
  /-- A read of a line buffer that is not wholly written (10_state.md R45). Raised by the row coders and the row store.
  Safe. -/
  | unwrittenLine
  /-- A pixel byte that is neither sentinel (20_memory.md R66). Raised by the row load. Safe. -/
  | notASentinel
  /-- A codeword executed outside the context it is read in (30_encoding.md R92; log 10). Raised by the meanings; the
  decoder never hands such a codeword to them. Safe. -/
  | outOfContext
deriving DecidableEq, Repr

/-- The outcome of a meaning, an access or a step. -/
abbrev Result := Host.Outcome State Fault Refusal

/-- The state after reset (10_state.md R43). The working registers, which R43 leaves unspecified, take the values log 4
names (DESIGN CHOICE); the line buffers hold no written cell (log 5) and the memories no written byte (log 6). -/
def State.reset : State where
  busy := false
  done := false
  dirl := .encode
  fstate := .idle
  err := .none
  cfgK := 0
  cfgFlags := 0
  cfgDamaged := 0
  cfgColumns := 0
  cfgRows := 0
  codeLen := 0
  pixRows := 0
  bitpos := 0
  color := .white
  a0 := -1
  col := 0
  runacc := 0
  rowidx := 0
  nrows := 0
  cur := []
  ref := []
  code := []
  pix := []
  hphase := .none
  host := []
  hostData := 0
  params := ⟨none, none, none⟩
  freeCount := 0

end Sys2Proof.Machine
end

