-- ==== Sys2Proof/Machine/Flags.lean ====
section
/-! DEFINITION. The flag-like state (10_state.md R25 to R30): the configuration bits, the status word, and the decode
context that the state determines (30_encoding.md R92). -/

namespace Sys2Proof.Machine

/-! ### Configuration -/

/-- `EndOfLine`, bit 0 of `CFG_FLAGS` (R30). -/
def State.endOfLine (s : State) : Bool := s.cfgFlags.getLsbD 0

/-- `EncodedByteAlign`, bit 1 (R30). -/
def State.encodedByteAlign (s : State) : Bool := s.cfgFlags.getLsbD 1

/-- `EndOfBlock`, bit 2 (R30). -/
def State.endOfBlock (s : State) : Bool := s.cfgFlags.getLsbD 2

/-- `BlackIs1`, bit 3 (R30). -/
def State.blackIs1 (s : State) : Bool := s.cfgFlags.getLsbD 3

/-- `Columns` as the engine uses it; an admitted call has it positive (R32). -/
def State.columns (s : State) : Nat := s.cfgColumns.toNat

/-- `Rows` as the engine uses it; an admitted call has it non-negative (R33). -/
def State.rows (s : State) : Nat := s.cfgRows.toNat

/-- `N` of 45_bitstream_primitives.md: the valid bytes of `CODE` in a decode call (R34). -/
def State.codeBytes (s : State) : Nat := s.codeLen.toNat

/-- `PIX_ROWS` as the engine uses it (R35). -/
def State.suppliedRows (s : State) : Nat := s.pixRows.toNat

/-! ### Coding schemes -/

/-- Whether a row is 1D- or 2D-coded (48_frame_sync_controller.md R474). -/
inductive RowKind where
  | oneD
  | twoD
deriving DecidableEq, Repr

/-- `rowKind(K, i)` of R474. -/
def rowKind (k : Int) (i : Nat) : RowKind :=
  if k = 0 then .oneD
  else if 0 < k then (if i % k.toNat = 0 then .oneD else .twoD)
  else .twoD

/-- `prefixCode(K, i)` of R474. -/
def prefixCode (k : Int) (i : Nat) : Option Instr :=
  if k = 0 then some .eol
  else if 0 < k then (if i % k.toNat = 0 then some .eol1 else some .eol0)
  else none

/-- `termUnit(K)` of R474. -/
def termUnit (k : Int) : Instr := if 0 < k then .eol1 else .eol

/-- `termCount(K)` of R474. -/
def termCount (k : Int) : Nat := if k < 0 then 2 else 6

/-- The tolerance of a scheme (R478). -/
def tolerance (k : Int) : Nat := if k < 0 then Config.tolG4 else Config.tolG3

/-- The corrupt-terminator error of a scheme (60_exceptions.md R545, R546). -/
def corruptTerminator (k : Int) : ErrKind :=
  if k < 0 then .corruptTerminatorEOFB else .corruptTerminatorRTC

/-- The markers looked for before row `i` (R480). -/
def syncSet (k : Int) (i : Nat) : SyncSet :=
  if 0 < k then (if i % k.toNat = 0 then .eol1 else .eol0OrEol1) else .eol

/-- The kind of the row that is due or being coded. -/
def State.rowKind (s : State) : RowKind := Machine.rowKind s.cfgK s.rowidx

/-! ### The decode context -/

/-- The context the state determines (30_encoding.md R92); `none` when no codeword is being read. -/
def State.context (s : State) : Option Context :=
  match s.busy, s.dirl, s.fstate with
  | true, .decode, .awaitingSync => some (.sync (syncSet s.cfgK s.rowidx))
  | true, .decode, .decodingRow =>
    match s.hphase, s.rowKind with
    | .none, .twoD => some .ctrl2d
    | _, _ => some (Context.ofColour s.color)
  | _, _, _ => none

/-! ### The status word -/

/-- The code of a frame state (10_state.md R40). -/
def FState.code : FState → Nat
  | .idle => 0
  | .awaitingSync => 1
  | .decodingRow => 2
  | .rowComplete => 3
  | .terminated => 4

/-- The code of an error kind (60_exceptions.md R541). -/
def ErrKind.code : ErrKind → Nat
  | .none => 0
  | .invalidControlCode => 1
  | .invalidRunCode => 2
  | .missingEOL => 3
  | .corruptTerminatorRTC => 4
  | .corruptTerminatorEOFB => 5
  | .bufferExhausted => 6
  | .runOutOfRange => 7

/-- The bit of a direction (10_state.md R28). -/
def Dir.code : Dir → Nat
  | .encode => 0
  | .decode => 1

/-- What a read of `STATUS` returns (10_state.md R28): BUSY bit 0, DONE bit 1, DIRL bit 2, FSTATE bits 6:4, ERR bits
11:8. -/
def State.statusWord (s : State) : Nat :=
  s.busy.toNat + 2 * s.done.toNat + 4 * s.dirl.code + 16 * s.fstate.code + 256 * s.err.code

/-- The frame states of a call in progress (10_state.md R44 (f)). -/
def FState.running : FState → Bool
  | .awaitingSync | .decodingRow | .rowComplete => true
  | .idle | .terminated => false

/-! ### Sentinels -/

/-- `toByte(c)` of 20_memory.md R66. -/
def toByte (blackIs1 : Bool) : Colour → Byte
  | .white => if blackIs1 then 0x00#8 else 0x01#8
  | .black => if blackIs1 then 0x01#8 else 0x00#8

/-- `toColour(v)` of R66; `none` for a byte that is no sentinel. -/
def toColour (blackIs1 : Bool) (v : Byte) : Option Colour :=
  if v = toByte blackIs1 .white then some .white
  else if v = toByte blackIs1 .black then some .black
  else none

end Sys2Proof.Machine
end

