-- ==== Sys2Proof/Machine/Operands.lean ====
section
/-! DEFINITION. The positions that serve a codeword as its operands (47_row_coder_2d.md R420 to R429): a1, a2, b1, b2,
the length of a run, and the choice of mode. A position is a column, or the number of columns where no changing element
is left (R420). -/

namespace Sys2Proof.Machine

/-- The first position from `p` on whose colour is not `c` (the loop of R423); `cols` when the line runs out. -/
def scanRun (cols : Nat) (c : Colour) : Line → (p : Nat) → Nat
  | [], _ => cols
  | x :: xs, p => if x = c then scanRun cols c xs (p + 1) else p

/-- `findA1(L, a0, c)` of R423; also `a2` (R424). -/
def findA1 (l : Line) (cols : Nat) (a0 : Int) (c : Colour) : Nat :=
  scanRun cols c ((l.take cols).drop (a0 + 1).toNat) (a0 + 1).toNat

/-- The length of the run of colour `c` that begins at column `col` (the inner loop of 46_row_coder_1d.md R401). -/
def runLengthAt (l : Line) (cols col : Nat) (c : Colour) : Nat :=
  scanRun cols c ((l.take cols).drop col) col - col

/-- `L[p - 1]`, with `L[-1] = white` (00_scope.md R9). -/
def colourBefore (l : Line) (p : Nat) : Colour :=
  if p = 0 then .white else l.getD (p - 1) .white

/-- The loop of R425 from `p` on: the first cell that differs from its predecessor and from `c`. -/
def scanB1 (cols : Nat) (c : Colour) : (before : Colour) → Line → (p : Nat) → Nat
  | _, [], _ => cols
  | b, x :: xs, p => if x ≠ b ∧ x ≠ c then p else scanB1 cols c x xs (p + 1)

/-- `findB1(R, a0, c)` of R425. -/
def findB1 (l : Line) (cols : Nat) (a0 : Int) (c : Colour) : Nat :=
  scanB1 cols c (colourBefore l (a0 + 1).toNat) ((l.take cols).drop (a0 + 1).toNat) (a0 + 1).toNat

/-- The loop of R426 from `p` on: the first cell that differs from its predecessor. -/
def scanB2 (cols : Nat) : (before : Colour) → Line → (p : Nat) → Nat
  | _, [], _ => cols
  | b, x :: xs, p => if x ≠ b then p else scanB2 cols x xs (p + 1)

/-- `findB2(R, b1)` of R426. -/
def findB2 (l : Line) (cols b1 : Nat) : Nat :=
  scanB2 cols (colourBefore l (b1 + 1)) ((l.take cols).drop (b1 + 1)) (b1 + 1)

/-- The three modes of one coding step (R428). -/
inductive Mode where
  | pass
  | vertical (d : Int)
  | horizontal
deriving DecidableEq, Repr

/-- `selectMode(a1, b1, b2)` of R429. -/
def selectMode (a1 b1 b2 : Nat) : Mode :=
  if b2 < a1 then .pass
  else if ((a1 : Int) - b1).natAbs ≤ 3 then .vertical ((a1 : Int) - b1)
  else .horizontal

/-- `b1` for the position of the coder (R425, R440). -/
def State.b1 (s : State) : Nat := findB1 s.ref s.columns s.a0 s.color

/-- `b2` for the position of the coder (R426, R440). -/
def State.b2 (s : State) : Nat := findB2 s.ref s.columns s.b1

/-- `a1` for the position of the coder (R423). -/
def State.a1 (s : State) : Nat := findA1 s.cur s.columns s.a0 s.color

/-- `a2` for the position of the coder (R424). -/
def State.a2 (s : State) : Nat := findA1 s.cur s.columns s.a1 s.color.opp

end Sys2Proof.Machine
end

