-- ==== Sys2Proof/Machine/Ops.lean ====
section
/-! DEFINITION. The named operations over memory, the bit stream, the line buffers and the registers; the error stop,
which is the block's way of taking an exception (60_exceptions.md R552); and the operations the codewords share. -/

namespace Sys2Proof.Machine

/-! ### Byte memories -/

/-- The byte at an offset; `none` when nothing has written it (10_state.md R45). -/
def Memory.read : Memory → Nat → Option Byte
  | [], _ => none
  | (x, v) :: m, a => if x = a then some v else Memory.read m a

/-- Store a byte; the list stays strictly rising. -/
def Memory.write : Memory → Nat → Byte → Memory
  | [], a, b => [(a, b)]
  | (x, v) :: m, a, b =>
    if a < x then (a, b) :: (x, v) :: m
    else if a = x then (a, b) :: m
    else (x, v) :: Memory.write m a b

/-- The canonical form: offsets strictly rising. -/
def Memory.wf : Memory → Bool
  | [] => true
  | [_] => true
  | (a, _) :: (b, y) :: m => decide (a < b) && Memory.wf ((b, y) :: m)

/-- Every byte below an offset has been written. -/
def Memory.writtenBelow (m : Memory) (n : Nat) : Bool :=
  (List.range n).all fun a => (m.read a).isSome

/-- Store a row of bytes from an offset on. -/
def Memory.writeBlock : Memory → Nat → List Byte → Memory
  | m, _, [] => m
  | m, a, b :: bs => Memory.writeBlock (m.write a b) (a + 1) bs

/-- Load a row of bytes; `none` when one of them is unwritten. -/
def Memory.readBlock (m : Memory) : Nat → Nat → Option (List Byte)
  | _, 0 => some []
  | a, n + 1 =>
    match m.read a, Memory.readBlock m (a + 1) n with
    | some b, some bs => some (b :: bs)
    | _, _ => none

/-- Whether `n` bytes lie inside a capacity (00_scope.md R11; `none` is unbounded). -/
def fitsIn (cap : Option Nat) (n : Nat) : Bool :=
  match cap with
  | none => true
  | some k => decide (n ≤ k)

/-- A memory of the two by its name. -/
def State.mem (s : State) : Space → Memory
  | .code => s.code
  | .pix => s.pix

/-- The capacity of a memory (R7). -/
def State.capacity (s : State) : Space → Option Nat
  | .code => s.params.codeBytes
  | .pix => s.params.pixBytes

/-- Store one byte in a memory. -/
def State.writeMem (s : State) (m : Space) (a : Nat) (b : Byte) : State :=
  match m with
  | .code => { s with code := s.code.write a b }
  | .pix => { s with pix := s.pix.write a b }

/-! ### The bit stream -/

/-- `bit(M, q)` of 00_scope.md R8 for a byte that has been written. -/
def bitAt (m : Memory) (q : Nat) : Option Bool := (m.read (q / 8)).map fun b => b.getLsbD (7 - q % 8)

/-- One bit of a window (45_bitstream_primitives.md R380): genuine below `8 n`, 0 from there on; `none` when the byte is
unwritten. -/
def streamBit (m : Memory) (n q : Nat) : Option Bool := if q < 8 * n then bitAt m q else some false

/-- The loop of R380: `k` bits are still to come. -/
def windowFrom (m : Memory) (n : Nat) : (k p : Nat) → Word → Option Word
  | 0, _, w => some w
  | k + 1, p, w =>
    match streamBit m n p with
    | none => none
    | some b => windowFrom m n k (p + 1) ((w <<< 1) ||| (BitVec.ofBool b).setWidth 16)

/-- How many of the 16 bits at `p` are genuine (R380, R381). -/
def genuineBits (n p : Nat) : Nat := min 16 (8 * n - p)

/-- What `fetch_next_code` returns (R380). -/
structure Fetched where
  window : Word
  avail : Nat
  newBitOffset : Nat
deriving DecidableEq, Repr

/-- `fetch_next_code(CODE, N, p)` of R380: a peek. -/
def fetchNextCode (m : Memory) (n p : Nat) : Option Fetched :=
  (windowFrom m n 16 p 0).map fun w => ⟨w, genuineBits n p, p + genuineBits n p⟩

/-- `matchAt(p, code)` of R386. -/
def matchAt (m : Memory) (n p : Nat) (k : Code) : Option Bool :=
  (fetchNextCode m n p).map fun f => k.matches f.window f.avail

/-- `countMarks(code, max)` of 48_frame_sync_controller.md R475 from position `q`. -/
def countMarks (m : Memory) (n : Nat) (k : Code) : (max q : Nat) → Option Nat
  | 0, _ => some 0
  | max + 1, q =>
    match matchAt m n q k with
    | none => none
    | some false => some 0
    | some true => (countMarks m n k max (q + k.length)).map (· + 1)

/-- One turn of the loop of `add_code` (R382): bit `b` at position `q`; a fresh byte is zeroed first (R383). -/
def addBit (m : Memory) (q : Nat) (b : Bool) : Option Memory :=
  let m' := if q % 8 = 0 then m.write (q / 8) 0 else m
  if b then (m'.read (q / 8)).map fun v => m'.write (q / 8) (v ||| (1#8 <<< (7 - q % 8)))
  else some m'

/-- The loop of `add_code` (R382): `k` bits are left, the next is bit `15 - i` at position `q`. -/
def addBits (w : Word) : (k i q : Nat) → Memory → Option Memory
  | 0, _, _, m => some m
  | k + 1, i, q, m =>
    match addBit m q (w.getLsbD (15 - i)) with
    | none => none
    | some m' => addBits w k (i + 1) (q + 1) m'

/-- `add_code(CODE, p, code)` of R382; its result position is `p + code.length`. -/
def addCode (m : Memory) (p : Nat) (k : Code) : Option Memory := addBits k.codeword k.length 0 p m

/-- `alignUp(p)` of R387. -/
def alignUp (p : Nat) : Nat := 8 * ((p + 7) / 8)

/-- Set one bit of the stream, whatever the byte held; an unwritten byte is taken as 0. Used only by
`State.withFetchWord`, which stands for the load of a stream from outside (log 12). -/
def pokeBit (m : Memory) (q : Nat) (b : Bool) : Memory :=
  let v := (m.read (q / 8)).getD 0
  let mask := 1#8 <<< (7 - q % 8)
  m.write (q / 8) (if b then v ||| mask else v &&& ~~~mask)

/-- Set the 16 bits of a window from position `q` on: `k` bits are left. -/
def pokeWindow (w : Word) : (k q : Nat) → Memory → Memory
  | 0, _, m => m
  | k + 1, q, m => pokeWindow w k (q + 1) (pokeBit m q (w.getLsbD k))

/-! ### Line buffers -/

/-- Write colour `c` into the cells `start .. stop - 1` (`for i in start .. stop - 1: L[i] <- c`). -/
def Line.fill (l : Line) (start stop : Nat) (c : Colour) : Line :=
  l.take start ++ List.replicate (stop - start) c ++ l.drop (max start stop)

/-- Write the cells `0 .. row.length - 1`; later cells keep what they hold. -/
def Line.overwrite (l : Line) (row : List Colour) : Line := row ++ l.drop row.length

/-! ### Moving the cursor, ending rows and calls -/

/-- `BITPOS <- BITPOS + n` (10_state.md R24). -/
def State.advance (s : State) (n : Nat) : State := { s with bitpos := s.bitpos + n }

/-- Genuine bits at the cursor (45_bitstream_primitives.md R381). -/
def State.genuine (s : State) : Nat := genuineBits s.codeBytes s.bitpos

/-- TAKING AN EXCEPTION: the error stop of 60_exceptions.md R552 at position `p`. `PIX` is unspecified afterwards, so each
byte it holds becomes a free value (log 9). There is no return from it: only a new START (R553). -/
def State.raise (s : State) (e : ErrKind) (p : Nat) : State :=
  { s with
    err := e
    bitpos := p
    pixRows := 0
    fstate := .terminated
    busy := false
    done := true
    hphase := .none
    pix := s.pix.map fun cell => (cell.1, Config.freePixByte s.freeCount cell.1)
    freeCount := s.freeCount + 1 }

/-- `finish()` of 48_frame_sync_controller.md R480: the normal stop of a decode call. -/
def State.finish (s : State) : State :=
  { s with pixRows := s.rowidx, fstate := .terminated, busy := false, done := true }

/-- The start of a row of a decode call: the first line of `decodeRow1D` (46_row_coder_1d.md R403, R402) or of
`decodeRow2D` (47_row_coder_2d.md R440). -/
def State.beginRow (s : State) : State :=
  match s.rowKind with
  | .oneD => { s with fstate := .decodingRow, hphase := .none, color := .white, col := 0, runacc := 0 }
  | .twoD => { s with fstate := .decodingRow, hphase := .none, color := .white, col := 0, a0 := -1 }

/-- The row coder returns when its loop condition fails (R403, R440, R481). -/
def State.endRowIf (s : State) (rowDone : Bool) : State :=
  if rowDone then { s with fstate := .rowComplete } else s

/-- Run a codeword's meaning in the context it is read in (30_encoding.md R92; log 10). -/
def State.inContext (s : State) (c : Context) (r : Result) : Result :=
  if s.context = some c then r else .refused .outOfContext

/-! ### Run codes (46_row_coder_1d.md) -/

/-- The checks of R402 in their order (genuine bits, then range), then the codeword is consumed and acts. -/
def State.runCode (s : State) (i : Instr) (act : State → State) : Result :=
  if s.genuine < (encode i).length then .next (s.raise .bufferExhausted s.bitpos)
  else if s.columns < s.col + s.runacc + i.runLength then .next (s.raise .runOutOfRange s.bitpos)
  else .next (act (s.advance (encode i).length))

/-- `drawRun(n)` of R404. -/
def State.drawRun (s : State) (n : Nat) : State :=
  { s with cur := s.cur.fill s.col (s.col + n) s.color, col := s.col + n, color := s.color.opp }

/-- What follows a run: in a 1D row the end test of R403; in a horizontal pair the second run, then `A0 <- COL` and the
end test of R440. -/
def State.afterRun (s : State) : State :=
  match s.hphase with
  | .none => s.endRowIf (decide (s.columns ≤ s.col))
  | .first => { s with hphase := .second, runacc := 0 }
  | .second => { s with hphase := .none, a0 := s.col }.endRowIf (decide (s.columns ≤ s.col))

/-- The terminal action (R402, R404): the run ends with `RUNACC + r`, is drawn, and `COLOR` flips. -/
def State.terminalAction (s : State) (r : Nat) : State :=
  ({ s with runacc := 0 }.drawRun (s.runacc + r)).afterRun

/-- The makeup action (R405). -/
def State.makeupAction (s : State) (r : Nat) : State := { s with runacc := s.runacc + r }

/-- A terminal code of a colour (R140 to R203, R240 to R303). -/
def State.terminalCode (s : State) (c : Colour) (i : Instr) : Result :=
  s.inContext (Context.ofColour c) (s.runCode i fun t => t.terminalAction i.runLength)

/-- A makeup code of a colour (R204 to R230, R304 to R330). -/
def State.makeupCode (s : State) (c : Colour) (i : Instr) : Result :=
  s.inContext (Context.ofColour c) (s.runCode i fun t => t.makeupAction i.runLength)

/-- A shared makeup code, read in the tree of either colour (R340 to R352). -/
def State.sharedMakeupCode (s : State) (i : Instr) : Result := s.makeupCode s.color i

/-! ### Control codes (47_row_coder_2d.md) -/

/-- The genuineness check of 45_bitstream_primitives.md R385 and the reference line, which must be wholly written
(10_state.md R45). The action still sees the codeword's first bit at `BITPOS`. -/
def State.controlCode (s : State) (i : Instr) (act : State → State) : Result :=
  s.inContext .ctrl2d
    (if s.genuine < (encode i).length then .next (s.raise .bufferExhausted s.bitpos)
     else if s.ref.length < s.columns then .refused .unwrittenLine
     else .next (act s))

/-- Draw the coding line up to column `a` in the current colour and move `A0` and `COL` there (R430, R441). -/
def State.drawTo (s : State) (a : Nat) : State :=
  { s with cur := s.cur.fill s.col a s.color, a0 := a, col := a }

/-- Pass mode (R430). -/
def State.passAction (s : State) (n : Nat) : State :=
  ((s.advance n).drawTo s.b2).endRowIf (decide (s.columns ≤ s.b2))

/-- Horizontal mode (R431): two runs follow; `decodeRun` clears `RUNACC` (R402). -/
def State.horizontalAction (s : State) (n : Nat) : State :=
  { s.advance n with hphase := .first, runacc := 0 }

/-- Vertical mode (R432 to R438) and its common action (R441) for the offset `d`. -/
def State.verticalAction (s : State) (n : Nat) (d : Int) : State :=
  if (s.b1 : Int) + d ≤ s.a0 ∨ (s.columns : Int) < (s.b1 : Int) + d then s.raise .runOutOfRange s.bitpos
  else
    { (s.advance n).drawTo ((s.b1 : Int) + d).toNat with color := s.color.opp }.endRowIf
      (decide ((s.columns : Int) ≤ (s.b1 : Int) + d))

/-- A vertical code (R432 to R438). -/
def State.verticalCode (s : State) (i : Instr) (d : Int) : Result :=
  s.controlCode i fun t => t.verticalAction (encode i).length d

/-! ### Sync codes (48_frame_sync_controller.md R480) -/

/-- A marker that is the scheme's terminator unit stands at the cursor. It and the copies behind it are counted (R475);
the full count ends the call, more than the tolerance is a corrupt terminator (R478), else it is what `otherwise` says. -/
def State.marker (s : State) (u : Instr) (otherwise : State) : Result :=
  match countMarks s.code s.codeBytes (encode u) (termCount s.cfgK - 1) (s.bitpos + (encode u).length) with
  | none => .refused (.unwrittenByte .code)
  | some k =>
    if k + 1 = termCount s.cfgK then .next (s.advance (termCount s.cfgK * (encode u).length)).finish
    else if tolerance s.cfgK < k + 1 then .next (s.raise (corruptTerminator s.cfgK) s.bitpos)
    else .next otherwise

/-- The row prefix is consumed and the row begins (R480). -/
def State.rowPrefix (s : State) (u : Instr) : State := (s.advance (encode u).length).beginRow

/-- The wanted prefix is not there (R480): MissingEOL when `EndOfLine` asks for one in a G3 call, else the row begins
and nothing is consumed. -/
def State.noPrefix (s : State) : State :=
  if 0 ≤ s.cfgK ∧ s.endOfLine = true then s.raise .missingEOL s.bitpos else s.beginRow

end Sys2Proof.Machine
end

