-- ==== Sys2Proof/Machine/BlackMakeup.lean ====
section
/-! DEFINITION. The black makeup codes, R304 to R330 (43_codes_makeup.md).
Each is one line over the shared run-code operation of Machine/Ops.lean. -/

namespace Sys2Proof.Machine

/-- R304 `BM64`. -/
def execBM64 (s : State) : Result := s.makeupCode .black .bm64

/-- R305 `BM128`. -/
def execBM128 (s : State) : Result := s.makeupCode .black .bm128

/-- R306 `BM192`. -/
def execBM192 (s : State) : Result := s.makeupCode .black .bm192

/-- R307 `BM256`. -/
def execBM256 (s : State) : Result := s.makeupCode .black .bm256

/-- R308 `BM320`. -/
def execBM320 (s : State) : Result := s.makeupCode .black .bm320

/-- R309 `BM384`. -/
def execBM384 (s : State) : Result := s.makeupCode .black .bm384

/-- R310 `BM448`. -/
def execBM448 (s : State) : Result := s.makeupCode .black .bm448

/-- R311 `BM512`. -/
def execBM512 (s : State) : Result := s.makeupCode .black .bm512

/-- R312 `BM576`. -/
def execBM576 (s : State) : Result := s.makeupCode .black .bm576

/-- R313 `BM640`. -/
def execBM640 (s : State) : Result := s.makeupCode .black .bm640

/-- R314 `BM704`. -/
def execBM704 (s : State) : Result := s.makeupCode .black .bm704

/-- R315 `BM768`. -/
def execBM768 (s : State) : Result := s.makeupCode .black .bm768

/-- R316 `BM832`. -/
def execBM832 (s : State) : Result := s.makeupCode .black .bm832

/-- R317 `BM896`. -/
def execBM896 (s : State) : Result := s.makeupCode .black .bm896

/-- R318 `BM960`. -/
def execBM960 (s : State) : Result := s.makeupCode .black .bm960

/-- R319 `BM1024`. -/
def execBM1024 (s : State) : Result := s.makeupCode .black .bm1024

/-- R320 `BM1088`. -/
def execBM1088 (s : State) : Result := s.makeupCode .black .bm1088

/-- R321 `BM1152`. -/
def execBM1152 (s : State) : Result := s.makeupCode .black .bm1152

/-- R322 `BM1216`. -/
def execBM1216 (s : State) : Result := s.makeupCode .black .bm1216

/-- R323 `BM1280`. -/
def execBM1280 (s : State) : Result := s.makeupCode .black .bm1280

/-- R324 `BM1344`. -/
def execBM1344 (s : State) : Result := s.makeupCode .black .bm1344

/-- R325 `BM1408`. -/
def execBM1408 (s : State) : Result := s.makeupCode .black .bm1408

/-- R326 `BM1472`. -/
def execBM1472 (s : State) : Result := s.makeupCode .black .bm1472

/-- R327 `BM1536`. -/
def execBM1536 (s : State) : Result := s.makeupCode .black .bm1536

/-- R328 `BM1600`. -/
def execBM1600 (s : State) : Result := s.makeupCode .black .bm1600

/-- R329 `BM1664`. -/
def execBM1664 (s : State) : Result := s.makeupCode .black .bm1664

/-- R330 `BM1728`. -/
def execBM1728 (s : State) : Result := s.makeupCode .black .bm1728

end Sys2Proof.Machine
end

