-- ==== Sys2Proof/Machine/BlackTerminal.lean ====
section
/-! DEFINITION. The black terminal codes, R240 to R303 (42_codes_black_terminal.md).
Each is one line over the shared run-code operation of Machine/Ops.lean. -/

namespace Sys2Proof.Machine

/-- R240 `B0`. -/
def execB0 (s : State) : Result := s.terminalCode .black .b0

/-- R241 `B1`. -/
def execB1 (s : State) : Result := s.terminalCode .black .b1

/-- R242 `B2`. -/
def execB2 (s : State) : Result := s.terminalCode .black .b2

/-- R243 `B3`. -/
def execB3 (s : State) : Result := s.terminalCode .black .b3

/-- R244 `B4`. -/
def execB4 (s : State) : Result := s.terminalCode .black .b4

/-- R245 `B5`. -/
def execB5 (s : State) : Result := s.terminalCode .black .b5

/-- R246 `B6`. -/
def execB6 (s : State) : Result := s.terminalCode .black .b6

/-- R247 `B7`. -/
def execB7 (s : State) : Result := s.terminalCode .black .b7

/-- R248 `B8`. -/
def execB8 (s : State) : Result := s.terminalCode .black .b8

/-- R249 `B9`. -/
def execB9 (s : State) : Result := s.terminalCode .black .b9

/-- R250 `B10`. -/
def execB10 (s : State) : Result := s.terminalCode .black .b10

/-- R251 `B11`. -/
def execB11 (s : State) : Result := s.terminalCode .black .b11

/-- R252 `B12`. -/
def execB12 (s : State) : Result := s.terminalCode .black .b12

/-- R253 `B13`. -/
def execB13 (s : State) : Result := s.terminalCode .black .b13

/-- R254 `B14`. -/
def execB14 (s : State) : Result := s.terminalCode .black .b14

/-- R255 `B15`. -/
def execB15 (s : State) : Result := s.terminalCode .black .b15

/-- R256 `B16`. -/
def execB16 (s : State) : Result := s.terminalCode .black .b16

/-- R257 `B17`. -/
def execB17 (s : State) : Result := s.terminalCode .black .b17

/-- R258 `B18`. -/
def execB18 (s : State) : Result := s.terminalCode .black .b18

/-- R259 `B19`. -/
def execB19 (s : State) : Result := s.terminalCode .black .b19

/-- R260 `B20`. -/
def execB20 (s : State) : Result := s.terminalCode .black .b20

/-- R261 `B21`. -/
def execB21 (s : State) : Result := s.terminalCode .black .b21

/-- R262 `B22`. -/
def execB22 (s : State) : Result := s.terminalCode .black .b22

/-- R263 `B23`. -/
def execB23 (s : State) : Result := s.terminalCode .black .b23

/-- R264 `B24`. -/
def execB24 (s : State) : Result := s.terminalCode .black .b24

/-- R265 `B25`. -/
def execB25 (s : State) : Result := s.terminalCode .black .b25

/-- R266 `B26`. -/
def execB26 (s : State) : Result := s.terminalCode .black .b26

/-- R267 `B27`. -/
def execB27 (s : State) : Result := s.terminalCode .black .b27

/-- R268 `B28`. -/
def execB28 (s : State) : Result := s.terminalCode .black .b28

/-- R269 `B29`. -/
def execB29 (s : State) : Result := s.terminalCode .black .b29

/-- R270 `B30`. -/
def execB30 (s : State) : Result := s.terminalCode .black .b30

/-- R271 `B31`. -/
def execB31 (s : State) : Result := s.terminalCode .black .b31

/-- R272 `B32`. -/
def execB32 (s : State) : Result := s.terminalCode .black .b32

/-- R273 `B33`. -/
def execB33 (s : State) : Result := s.terminalCode .black .b33

/-- R274 `B34`. -/
def execB34 (s : State) : Result := s.terminalCode .black .b34

/-- R275 `B35`. -/
def execB35 (s : State) : Result := s.terminalCode .black .b35

/-- R276 `B36`. -/
def execB36 (s : State) : Result := s.terminalCode .black .b36

/-- R277 `B37`. -/
def execB37 (s : State) : Result := s.terminalCode .black .b37

/-- R278 `B38`. -/
def execB38 (s : State) : Result := s.terminalCode .black .b38

/-- R279 `B39`. -/
def execB39 (s : State) : Result := s.terminalCode .black .b39

/-- R280 `B40`. -/
def execB40 (s : State) : Result := s.terminalCode .black .b40

/-- R281 `B41`. -/
def execB41 (s : State) : Result := s.terminalCode .black .b41

/-- R282 `B42`. -/
def execB42 (s : State) : Result := s.terminalCode .black .b42

/-- R283 `B43`. -/
def execB43 (s : State) : Result := s.terminalCode .black .b43

/-- R284 `B44`. -/
def execB44 (s : State) : Result := s.terminalCode .black .b44

/-- R285 `B45`. -/
def execB45 (s : State) : Result := s.terminalCode .black .b45

/-- R286 `B46`. -/
def execB46 (s : State) : Result := s.terminalCode .black .b46

/-- R287 `B47`. -/
def execB47 (s : State) : Result := s.terminalCode .black .b47

/-- R288 `B48`. -/
def execB48 (s : State) : Result := s.terminalCode .black .b48

/-- R289 `B49`. -/
def execB49 (s : State) : Result := s.terminalCode .black .b49

/-- R290 `B50`. -/
def execB50 (s : State) : Result := s.terminalCode .black .b50

/-- R291 `B51`. -/
def execB51 (s : State) : Result := s.terminalCode .black .b51

/-- R292 `B52`. -/
def execB52 (s : State) : Result := s.terminalCode .black .b52

/-- R293 `B53`. -/
def execB53 (s : State) : Result := s.terminalCode .black .b53

/-- R294 `B54`. -/
def execB54 (s : State) : Result := s.terminalCode .black .b54

/-- R295 `B55`. -/
def execB55 (s : State) : Result := s.terminalCode .black .b55

/-- R296 `B56`. -/
def execB56 (s : State) : Result := s.terminalCode .black .b56

/-- R297 `B57`. -/
def execB57 (s : State) : Result := s.terminalCode .black .b57

/-- R298 `B58`. -/
def execB58 (s : State) : Result := s.terminalCode .black .b58

/-- R299 `B59`. -/
def execB59 (s : State) : Result := s.terminalCode .black .b59

/-- R300 `B60`. -/
def execB60 (s : State) : Result := s.terminalCode .black .b60

/-- R301 `B61`. -/
def execB61 (s : State) : Result := s.terminalCode .black .b61

/-- R302 `B62`. -/
def execB62 (s : State) : Result := s.terminalCode .black .b62

/-- R303 `B63`. -/
def execB63 (s : State) : Result := s.terminalCode .black .b63

end Sys2Proof.Machine
end

