-- ==== Sys2Proof/Machine/Control2D.lean ====
section
/-! DEFINITION. The nine control codes, R430 to R438 (47_row_coder_2d.md). -/

namespace Sys2Proof.Machine

/-- R430 `P`: pass mode. -/
def execP (s : State) : Result := s.controlCode .p fun t => t.passAction (encode .p).length

/-- R431 `H`: horizontal mode. -/
def execH (s : State) : Result := s.controlCode .h fun t => t.horizontalAction (encode .h).length

/-- R432 `V0`: `a1 = b1`. -/
def execV0 (s : State) : Result := s.verticalCode .v0 0

/-- R433 `VR1`: `a1 = b1 + 1`. -/
def execVR1 (s : State) : Result := s.verticalCode .vr1 1

/-- R434 `VR2`: `a1 = b1 + 2`. -/
def execVR2 (s : State) : Result := s.verticalCode .vr2 2

/-- R435 `VR3`: `a1 = b1 + 3`. -/
def execVR3 (s : State) : Result := s.verticalCode .vr3 3

/-- R436 `VL1`: `a1 = b1 - 1`. -/
def execVL1 (s : State) : Result := s.verticalCode .vl1 (-1)

/-- R437 `VL2`: `a1 = b1 - 2`. -/
def execVL2 (s : State) : Result := s.verticalCode .vl2 (-2)

/-- R438 `VL3`: `a1 = b1 - 3`. -/
def execVL3 (s : State) : Result := s.verticalCode .vl3 (-3)

end Sys2Proof.Machine
end

