-- ==== Sys2Proof/Machine/SharedMakeup.lean ====
section
/-! DEFINITION. The shared makeup codes, R340 to R352 (43_codes_makeup.md).
Each is one line over the shared run-code operation of Machine/Ops.lean. -/

namespace Sys2Proof.Machine

/-- R340 `XM1792`. -/
def execXM1792 (s : State) : Result := s.sharedMakeupCode .xm1792

/-- R341 `XM1856`. -/
def execXM1856 (s : State) : Result := s.sharedMakeupCode .xm1856

/-- R342 `XM1920`. -/
def execXM1920 (s : State) : Result := s.sharedMakeupCode .xm1920

/-- R343 `XM1984`. -/
def execXM1984 (s : State) : Result := s.sharedMakeupCode .xm1984

/-- R344 `XM2048`. -/
def execXM2048 (s : State) : Result := s.sharedMakeupCode .xm2048

/-- R345 `XM2112`. -/
def execXM2112 (s : State) : Result := s.sharedMakeupCode .xm2112

/-- R346 `XM2176`. -/
def execXM2176 (s : State) : Result := s.sharedMakeupCode .xm2176

/-- R347 `XM2240`. -/
def execXM2240 (s : State) : Result := s.sharedMakeupCode .xm2240

/-- R348 `XM2304`. -/
def execXM2304 (s : State) : Result := s.sharedMakeupCode .xm2304

/-- R349 `XM2368`. -/
def execXM2368 (s : State) : Result := s.sharedMakeupCode .xm2368

/-- R350 `XM2432`. -/
def execXM2432 (s : State) : Result := s.sharedMakeupCode .xm2432

/-- R351 `XM2496`. -/
def execXM2496 (s : State) : Result := s.sharedMakeupCode .xm2496

/-- R352 `XM2560`. -/
def execXM2560 (s : State) : Result := s.sharedMakeupCode .xm2560

end Sys2Proof.Machine
end

