-- ==== Sys2Proof/Machine/Sync.lean ====
section
/-! DEFINITION. The three synchronisation codes, R470 to R472 (48_frame_sync_controller.md), inside the step R480 gives
a row boundary. -/

namespace Sys2Proof.Machine

/-- R470 `EOL`: the row prefix and the unit of RTC for `K = 0`, the unit of EOFB for `K < 0`. -/
def execEOL (s : State) : Result := s.inContext (.sync .eol) (s.marker .eol (s.rowPrefix .eol))

/-- R471 `EOL0`: the prefix of a 2D row of a `K > 0` call. -/
def execEOL0 (s : State) : Result := s.inContext (.sync .eol0OrEol1) (.next (s.rowPrefix .eol0))

/-- R472 `EOL1`: the prefix of a 1D row of a `K > 0` call and the unit of its RTC. Before a 2D row a lone `EOL1` is
neither: the prefix is missing (R480, note (c)). -/
def execEOL1 (s : State) : Result :=
  if s.context = some (.sync .eol0OrEol1) then s.marker .eol1 s.noPrefix
  else s.inContext (.sync .eol1) (s.marker .eol1 (s.rowPrefix .eol1))

end Sys2Proof.Machine
end

