-- ==== Sys2Proof/Machine/WhiteMakeup.lean ====
section
/-! DEFINITION. The white makeup codes, R204 to R230 (43_codes_makeup.md).
Each is one line over the shared run-code operation of Machine/Ops.lean. -/

namespace Sys2Proof.Machine

/-- R204 `WM64`. -/
def execWM64 (s : State) : Result := s.makeupCode .white .wm64

/-- R205 `WM128`. -/
def execWM128 (s : State) : Result := s.makeupCode .white .wm128

/-- R206 `WM192`. -/
def execWM192 (s : State) : Result := s.makeupCode .white .wm192

/-- R207 `WM256`. -/
def execWM256 (s : State) : Result := s.makeupCode .white .wm256

/-- R208 `WM320`. -/
def execWM320 (s : State) : Result := s.makeupCode .white .wm320

/-- R209 `WM384`. -/
def execWM384 (s : State) : Result := s.makeupCode .white .wm384

/-- R210 `WM448`. -/
def execWM448 (s : State) : Result := s.makeupCode .white .wm448

/-- R211 `WM512`. -/
def execWM512 (s : State) : Result := s.makeupCode .white .wm512

/-- R212 `WM576`. -/
def execWM576 (s : State) : Result := s.makeupCode .white .wm576

/-- R213 `WM640`. -/
def execWM640 (s : State) : Result := s.makeupCode .white .wm640

/-- R214 `WM704`. -/
def execWM704 (s : State) : Result := s.makeupCode .white .wm704

/-- R215 `WM768`. -/
def execWM768 (s : State) : Result := s.makeupCode .white .wm768

/-- R216 `WM832`. -/
def execWM832 (s : State) : Result := s.makeupCode .white .wm832

/-- R217 `WM896`. -/
def execWM896 (s : State) : Result := s.makeupCode .white .wm896

/-- R218 `WM960`. -/
def execWM960 (s : State) : Result := s.makeupCode .white .wm960

/-- R219 `WM1024`. -/
def execWM1024 (s : State) : Result := s.makeupCode .white .wm1024

/-- R220 `WM1088`. -/
def execWM1088 (s : State) : Result := s.makeupCode .white .wm1088

/-- R221 `WM1152`. -/
def execWM1152 (s : State) : Result := s.makeupCode .white .wm1152

/-- R222 `WM1216`. -/
def execWM1216 (s : State) : Result := s.makeupCode .white .wm1216

/-- R223 `WM1280`. -/
def execWM1280 (s : State) : Result := s.makeupCode .white .wm1280

/-- R224 `WM1344`. -/
def execWM1344 (s : State) : Result := s.makeupCode .white .wm1344

/-- R225 `WM1408`. -/
def execWM1408 (s : State) : Result := s.makeupCode .white .wm1408

/-- R226 `WM1472`. -/
def execWM1472 (s : State) : Result := s.makeupCode .white .wm1472

/-- R227 `WM1536`. -/
def execWM1536 (s : State) : Result := s.makeupCode .white .wm1536

/-- R228 `WM1600`. -/
def execWM1600 (s : State) : Result := s.makeupCode .white .wm1600

/-- R229 `WM1664`. -/
def execWM1664 (s : State) : Result := s.makeupCode .white .wm1664

/-- R230 `WM1728`. -/
def execWM1728 (s : State) : Result := s.makeupCode .white .wm1728

end Sys2Proof.Machine
end

