-- ==== Sys2Proof/Machine/WhiteTerminal.lean ====
section
/-! DEFINITION. The white terminal codes, R140 to R203 (41_codes_white_terminal.md).
Each is one line over the shared run-code operation of Machine/Ops.lean. -/

namespace Sys2Proof.Machine

/-- R140 `W0`. -/
def execW0 (s : State) : Result := s.terminalCode .white .w0

/-- R141 `W1`. -/
def execW1 (s : State) : Result := s.terminalCode .white .w1

/-- R142 `W2`. -/
def execW2 (s : State) : Result := s.terminalCode .white .w2

/-- R143 `W3`. -/
def execW3 (s : State) : Result := s.terminalCode .white .w3

/-- R144 `W4`. -/
def execW4 (s : State) : Result := s.terminalCode .white .w4

/-- R145 `W5`. -/
def execW5 (s : State) : Result := s.terminalCode .white .w5

/-- R146 `W6`. -/
def execW6 (s : State) : Result := s.terminalCode .white .w6

/-- R147 `W7`. -/
def execW7 (s : State) : Result := s.terminalCode .white .w7

/-- R148 `W8`. -/
def execW8 (s : State) : Result := s.terminalCode .white .w8

/-- R149 `W9`. -/
def execW9 (s : State) : Result := s.terminalCode .white .w9

/-- R150 `W10`. -/
def execW10 (s : State) : Result := s.terminalCode .white .w10

/-- R151 `W11`. -/
def execW11 (s : State) : Result := s.terminalCode .white .w11

/-- R152 `W12`. -/
def execW12 (s : State) : Result := s.terminalCode .white .w12

/-- R153 `W13`. -/
def execW13 (s : State) : Result := s.terminalCode .white .w13

/-- R154 `W14`. -/
def execW14 (s : State) : Result := s.terminalCode .white .w14

/-- R155 `W15`. -/
def execW15 (s : State) : Result := s.terminalCode .white .w15

/-- R156 `W16`. -/
def execW16 (s : State) : Result := s.terminalCode .white .w16

/-- R157 `W17`. -/
def execW17 (s : State) : Result := s.terminalCode .white .w17

/-- R158 `W18`. -/
def execW18 (s : State) : Result := s.terminalCode .white .w18

/-- R159 `W19`. -/
def execW19 (s : State) : Result := s.terminalCode .white .w19

/-- R160 `W20`. -/
def execW20 (s : State) : Result := s.terminalCode .white .w20

/-- R161 `W21`. -/
def execW21 (s : State) : Result := s.terminalCode .white .w21

/-- R162 `W22`. -/
def execW22 (s : State) : Result := s.terminalCode .white .w22

/-- R163 `W23`. -/
def execW23 (s : State) : Result := s.terminalCode .white .w23

/-- R164 `W24`. -/
def execW24 (s : State) : Result := s.terminalCode .white .w24

/-- R165 `W25`. -/
def execW25 (s : State) : Result := s.terminalCode .white .w25

/-- R166 `W26`. -/
def execW26 (s : State) : Result := s.terminalCode .white .w26

/-- R167 `W27`. -/
def execW27 (s : State) : Result := s.terminalCode .white .w27

/-- R168 `W28`. -/
def execW28 (s : State) : Result := s.terminalCode .white .w28

/-- R169 `W29`. -/
def execW29 (s : State) : Result := s.terminalCode .white .w29

/-- R170 `W30`. -/
def execW30 (s : State) : Result := s.terminalCode .white .w30

/-- R171 `W31`. -/
def execW31 (s : State) : Result := s.terminalCode .white .w31

/-- R172 `W32`. -/
def execW32 (s : State) : Result := s.terminalCode .white .w32

/-- R173 `W33`. -/
def execW33 (s : State) : Result := s.terminalCode .white .w33

/-- R174 `W34`. -/
def execW34 (s : State) : Result := s.terminalCode .white .w34

/-- R175 `W35`. -/
def execW35 (s : State) : Result := s.terminalCode .white .w35

/-- R176 `W36`. -/
def execW36 (s : State) : Result := s.terminalCode .white .w36

/-- R177 `W37`. -/
def execW37 (s : State) : Result := s.terminalCode .white .w37

/-- R178 `W38`. -/
def execW38 (s : State) : Result := s.terminalCode .white .w38

/-- R179 `W39`. -/
def execW39 (s : State) : Result := s.terminalCode .white .w39

/-- R180 `W40`. -/
def execW40 (s : State) : Result := s.terminalCode .white .w40

/-- R181 `W41`. -/
def execW41 (s : State) : Result := s.terminalCode .white .w41

/-- R182 `W42`. -/
def execW42 (s : State) : Result := s.terminalCode .white .w42

/-- R183 `W43`. -/
def execW43 (s : State) : Result := s.terminalCode .white .w43

/-- R184 `W44`. -/
def execW44 (s : State) : Result := s.terminalCode .white .w44

/-- R185 `W45`. -/
def execW45 (s : State) : Result := s.terminalCode .white .w45

/-- R186 `W46`. -/
def execW46 (s : State) : Result := s.terminalCode .white .w46

/-- R187 `W47`. -/
def execW47 (s : State) : Result := s.terminalCode .white .w47

/-- R188 `W48`. -/
def execW48 (s : State) : Result := s.terminalCode .white .w48

/-- R189 `W49`. -/
def execW49 (s : State) : Result := s.terminalCode .white .w49

/-- R190 `W50`. -/
def execW50 (s : State) : Result := s.terminalCode .white .w50

/-- R191 `W51`. -/
def execW51 (s : State) : Result := s.terminalCode .white .w51

/-- R192 `W52`. -/
def execW52 (s : State) : Result := s.terminalCode .white .w52

/-- R193 `W53`. -/
def execW53 (s : State) : Result := s.terminalCode .white .w53

/-- R194 `W54`. -/
def execW54 (s : State) : Result := s.terminalCode .white .w54

/-- R195 `W55`. -/
def execW55 (s : State) : Result := s.terminalCode .white .w55

/-- R196 `W56`. -/
def execW56 (s : State) : Result := s.terminalCode .white .w56

/-- R197 `W57`. -/
def execW57 (s : State) : Result := s.terminalCode .white .w57

/-- R198 `W58`. -/
def execW58 (s : State) : Result := s.terminalCode .white .w58

/-- R199 `W59`. -/
def execW59 (s : State) : Result := s.terminalCode .white .w59

/-- R200 `W60`. -/
def execW60 (s : State) : Result := s.terminalCode .white .w60

/-- R201 `W61`. -/
def execW61 (s : State) : Result := s.terminalCode .white .w61

/-- R202 `W62`. -/
def execW62 (s : State) : Result := s.terminalCode .white .w62

/-- R203 `W63`. -/
def execW63 (s : State) : Result := s.terminalCode .white .w63

end Sys2Proof.Machine
end

