-- ==== Sys2Proof/Machine/Encoder.lean ====
section
/-! DEFINITION. The encode direction: emission of codewords and the two row encoders (46_row_coder_1d.md R400, R401;
47_row_coder_2d.md R439). `none` anywhere below is a merge into a byte nothing has written, which R45 refuses and no run
comes to (10_state.md R44 (b)). -/

namespace Sys2Proof.Machine

/-- Emit one codeword: `BITPOS <- add_code(CODE, BITPOS, code)` (45_bitstream_primitives.md R382). -/
def State.emit (s : State) (i : Instr) : Option State :=
  (addCode s.code s.bitpos (encode i)).map fun m =>
    { s with code := m, bitpos := s.bitpos + (encode i).length }

/-- Emit codewords in order. -/
def State.emitAll : State → List Instr → Option State
  | s, [] => some s
  | s, i :: is =>
    match s.emit i with
    | none => none
    | some t => State.emitAll t is

/-- `emitRun(c, r)` of R400. -/
def State.emitRun (s : State) (c : Colour) (r : Nat) : Option State := s.emitAll (runCodes c r)

/-- One turn of the loop of `encodeRow1D` (R401). -/
def State.encodeRunStep (s : State) : Option State :=
  let r := runLengthAt s.cur s.columns s.col s.color
  (s.emitRun s.color r).map fun t => { t with col := s.col + r, color := s.color.opp }

/-- The loop of `encodeRow1D` (R401) for at most `n` turns. -/
def State.encodeRuns : (n : Nat) → State → Option State
  | 0, s => some s
  | n + 1, s =>
    if s.col < s.columns then
      match s.encodeRunStep with
      | none => none
      | some t => State.encodeRuns n t
    else some s

/-- `encodeRow1D()` of R401; only its first run can have length 0, so `Columns + 1` turns are enough. -/
def State.encodeRow1D (s : State) : Option State :=
  State.encodeRuns (s.columns + 1) { s with color := .white, col := 0 }

/-- One coding step of `encodeRow2D` (R439). -/
def State.encodeModeStep (s : State) : Option State :=
  match selectMode s.a1 s.b1 s.b2 with
  | .pass => (s.emit .p).map fun t => { t with a0 := s.b2, col := s.b2 }
  | .vertical d =>
    (s.emitAll (Sys2Proof.verticalCode d).toList).map fun t =>
      { t with a0 := s.a1, color := s.color.opp, col := s.a1 }
  | .horizontal =>
    match s.emit .h with
    | none => none
    | some t =>
      match t.emitRun s.color (s.a1 - s.a0.toNat) with
      | none => none
      | some u => (u.emitRun s.color.opp (s.a2 - s.a1)).map fun v => { v with a0 := s.a2, col := s.a2 }

/-- The loop of `encodeRow2D` (R439) for at most `n` turns. -/
def State.encodeModes : (n : Nat) → State → Option State
  | 0, s => some s
  | n + 1, s =>
    if s.a0 < s.columns then
      match s.encodeModeStep with
      | none => none
      | some t => State.encodeModes n t
    else some s

/-- `encodeRow2D()` of R439; every step moves `A0` strictly right from -1, so `Columns + 1` turns are enough. -/
def State.encodeRow2D (s : State) : Option State :=
  State.encodeModes (s.columns + 1) { s with a0 := -1, color := .white, col := 0 }

end Sys2Proof.Machine
end

