-- ==== Sys2Proof/Machine/Engine.lean ====
section
/-! DEFINITION. The frame state machine in both directions (48_frame_sync_controller.md R479 to R489): one step of the
engine. In a decode call a step inside a row is one codeword; every other step is a frame step (log 2; R479 leaves the
granularity free). -/

namespace Sys2Proof.Machine

/-! ### Decode direction -/

/-- The error of a fetch that spells no codeword (45_bitstream_primitives.md R385; 60_exceptions.md R549). -/
def noMatchError (why : Reject) (avail : Nat) : ErrKind :=
  if avail < 16 then .bufferExhausted
  else match why with
    | .invalidControlCode => .invalidControlCode
    | .invalidRunCode | .noMarker => .invalidRunCode

/-- Fetch at `BITPOS`, decode in the context of the state, and run what is there (R380, R363, R386, R385; at a row
boundary, where nothing is illegal, R105 and R480). -/
def State.decodeStep (s : State) (c : Context) : Result :=
  match fetchNextCode s.code s.codeBytes s.bitpos with
  | none => .refused (.unwrittenByte .code)
  | some f =>
    match decode c f.window f.avail with
    | .instr i => exec i s
    | .reject .noMarker => .next s.noPrefix
    | .reject why => .next (s.raise (noMatchError why f.avail) s.bitpos)

/-- `storeRow(r)` of 20_memory.md R65. -/
def State.storeRow (s : State) (r : Nat) : State :=
  { s with pix := s.pix.writeBlock (r * s.columns) ((s.cur.take s.columns).map (toByte s.blackIs1)) }

/-- The end of `decodeRowComplete` and `encodeRowComplete`: the reference line, the row counter and the alignment (R482,
R484, R487). -/
def State.closeRow (s : State) : State :=
  { s with
    ref := s.ref.overwrite (s.cur.take s.columns)
    rowidx := s.rowidx + 1
    bitpos := if s.encodedByteAlign then alignUp s.bitpos else s.bitpos }

/-- The row-limit stop of R483 (b), with the row just completed counted. -/
def State.rowLimitReached (s : State) : Bool :=
  decide (0 < s.cfgRows) && !s.endOfBlock && decide (s.cfgRows ≤ (s.rowidx : Int))

/-- `decodeRowComplete()` of R482. -/
def State.decodeRowComplete (s : State) : Result :=
  if s.cur.length < s.columns then .refused .unwrittenLine
  else if fitsIn s.params.pixBytes ((s.rowidx + 1) * s.columns) then
    let t := (s.storeRow s.rowidx).closeRow
    .next (if t.rowLimitReached then t.finish else { t with fstate := .awaitingSync })
  else .fault (.outsideSpace .pix)

/-! ### Encode direction -/

/-- An encode step's outcome: the bytes it wrote must lie inside `CODE` (20_memory.md R69; never otherwise in a call that
R523 (e) admitted), and a merge into an unwritten byte is refused (10_state.md R45). -/
def State.emitted (o : Option State) : Result :=
  match o with
  | none => .refused (.unwrittenByte .code)
  | some t =>
    if fitsIn t.params.codeBytes ((t.bitpos + 7) / 8) then .next t else .fault (.outsideSpace .code)

/-- `emitTerminator()` of R488. -/
def State.emitTerminator (s : State) : Option State :=
  if s.endOfBlock then s.emitAll (List.replicate (termCount s.cfgK) (termUnit s.cfgK)) else some s

/-- The row prefix of an encode call (R485). -/
def State.emitPrefix (s : State) : Option State :=
  if s.endOfLine = true ∧ 0 ≤ s.cfgK then s.emitAll (prefixCode s.cfgK s.rowidx).toList else some s

/-- The end of an encode call (R485, R489). -/
def State.finishEncode (s : State) : State :=
  { s with codeLen := ((s.bitpos + 7) / 8 : Nat), fstate := .terminated, busy := false, done := true }

/-- `toColour` on every byte of a row; `none` when one is no sentinel (20_memory.md R66). -/
def toColours (blackIs1 : Bool) : List Byte → Option (List Colour)
  | [] => some []
  | b :: bs =>
    match toColour blackIs1 b, toColours blackIs1 bs with
    | some c, some cs => some (c :: cs)
    | _, _ => none

/-- The bytes of row `r` of `PIX` (20_memory.md R64). -/
def State.rowBytes (s : State) (r : Nat) : Option (List Byte) := s.pix.readBlock (r * s.columns) s.columns

/-- `encodeAwaitingSync()` of R485, `loadRow` of R65 in it. -/
def State.encodeAwaitingSync (s : State) : Result :=
  if s.rowidx = s.nrows then State.emitted (s.emitTerminator.map State.finishEncode)
  else
    match s.rowBytes s.rowidx with
    | none => .refused (.unwrittenByte .pix)
    | some bytes =>
      match toColours s.blackIs1 bytes with
      | none => .refused .notASentinel
      | some row =>
        State.emitted (s.emitPrefix.map fun t => { t with cur := t.cur.overwrite row, fstate := .decodingRow })

/-- `encodeDecodingRow()` of R486. -/
def State.encodeDecodingRow (s : State) : Result :=
  if s.cur.length < s.columns then .refused .unwrittenLine
  else
    match s.rowKind with
    | .oneD => State.emitted (s.encodeRow1D.map fun t => { t with fstate := .rowComplete })
    | .twoD =>
      if s.ref.length < s.columns then .refused .unwrittenLine
      else State.emitted (s.encodeRow2D.map fun t => { t with fstate := .rowComplete })

/-- `encodeRowComplete()` of R487. -/
def State.encodeRowComplete (s : State) : Result :=
  if s.cur.length < s.columns then .refused .unwrittenLine
  else .next { s.closeRow with fstate := .awaitingSync }

/-! ### One step of the engine -/

/-- One step of a decode call (R480 to R482). At a row boundary an exhausted buffer is the normal stop (R483 (c)). -/
def State.decodeEngineStep (s : State) : Result :=
  match s.fstate with
  | .awaitingSync =>
    if 8 * s.codeBytes ≤ s.bitpos then .next s.finish
    else s.decodeStep (.sync (syncSet s.cfgK s.rowidx))
  | .decodingRow =>
    match s.context with
    | some c => s.decodeStep c
    | none => .fault .noTransition
  | .rowComplete => s.decodeRowComplete
  | .idle | .terminated => .fault .noTransition

/-- One step of an encode call (R485 to R487). -/
def State.encodeEngineStep (s : State) : Result :=
  match s.fstate with
  | .awaitingSync => s.encodeAwaitingSync
  | .decodingRow => s.encodeDecodingRow
  | .rowComplete => s.encodeRowComplete
  | .idle | .terminated => .fault .noTransition

/-- One step of the engine. While `BUSY = 0` it does nothing (70_reset_and_hazards.md R580). -/
def State.engineStep (s : State) : Result :=
  if s.busy then
    match s.dirl with
    | .decode => s.decodeEngineStep
    | .encode => s.encodeEngineStep
  else .next s

/-- The engine's steps, at most `n` of them, until the call is over or the engine stops; used by the admission
conditions R523 (e) and (g), which speak of the whole call. -/
def State.runEngine : (n : Nat) → State → State
  | 0, s => s
  | n + 1, s =>
    if s.busy then
      match s.engineStep with
      | .next t => State.runEngine n t
      | .fault _ => s
      | .refused _ => s
    else s

end Sys2Proof.Machine
end

