-- ==== Sys2Proof/Machine/Interface.lean ====
section
/-! DEFINITION. The host's side: the register file (10_state.md R26 to R36), the two commands (49_host_commands.md R521,
R522), their admission (R523), the access rules (R526), and the moves of the host in the machine (log 1). -/

namespace Sys2Proof.Machine

/-! ### The two commands -/

/-- The synthetic all-white reference line of a G4 call (R521, R522). -/
def State.whiteReference (s : State) : State :=
  if s.cfgK < 0 then { s with ref := s.ref.overwrite (List.replicate s.columns .white) } else s

/-- What both commands do at START (R521, R522). -/
def State.startCall (s : State) (d : Dir) : State :=
  { s with
    dirl := d
    err := .none
    done := false
    busy := true
    bitpos := 0
    rowidx := 0
    runacc := 0
    hphase := .none
    fstate := .awaitingSync }.whiteReference

/-- `NROWS` (48_frame_sync_controller.md R485). -/
def State.rowsToEncode (s : State) : Nat :=
  if 0 < s.cfgRows then min s.rows s.suppliedRows else s.suppliedRows

/-- `startEncode()` of R521. -/
def State.startEncode (s : State) : State := { s with nrows := s.rowsToEncode }.startCall .encode

/-- `startDecode()` of R522. -/
def State.startDecode (s : State) : State := s.startCall .decode

/-! ### Admission (R523) -/

/-- R523 (d): the supplied bitmap is complete, inside `PIX`, and holds sentinels only. -/
def State.bitmapReady (s : State) : Bool :=
  decide (0 ≤ s.pixRows) && fitsIn s.params.pixBytes (s.suppliedRows * s.columns) &&
    match s.pix.readBlock 0 (s.suppliedRows * s.columns) with
    | none => false
    | some bytes => bytes.all fun b => (toColour s.blackIs1 b).isSome

/-- R523 (f): the stream is complete and inside `CODE`. -/
def State.streamReady (s : State) : Bool :=
  decide (0 ≤ s.codeLen) && fitsIn s.params.codeBytes s.codeBytes && s.code.writtenBelow s.codeBytes

/-- The same block with unbounded memories, in which a call is run to see what it needs (log 13). -/
def State.unbounded (s : State) : State := { s with params := ⟨s.params.regw, none, none⟩ }

/-- R523 (e): the output of the encode call fits; it takes `3 NROWS + 1` frame steps (R524). -/
def State.outputFits (s : State) : Bool :=
  match s.params.codeBytes with
  | none => true
  | some k =>
    decide (((State.runEngine (3 * s.rowsToEncode + 1) s.unbounded.startEncode).bitpos + 7) / 8 ≤ k)

/-- R523 (g): every row the decode call stores fits. A step that neither ends the call nor consumes a bit is a row's
sync step or its completion, and a row consumes at least one bit, so `24 CODE_LEN + 3` steps are enough. -/
def State.rowsFit (s : State) : Bool :=
  match s.params.pixBytes with
  | none => true
  | some k =>
    decide ((State.runEngine (24 * s.codeBytes + 3) s.unbounded.startDecode).rowidx * s.columns ≤ k)

/-- R523 (h): with a finite `REGW` every intermediate value fits a signed register (45_bitstream_primitives.md R389). -/
def State.widthHolds (s : State) : Bool :=
  match s.params.regw with
  | none => true
  | some w =>
    decide (s.columns + 2560 < 2 ^ (w - 1)) &&
    (match s.params.codeBytes with
     | none => false
     | some k => decide (8 * k + 16 < 2 ^ (w - 1))) &&
    (match s.params.pixBytes with
     | none => false
     | some k => decide (k < 2 ^ (w - 1)))

/-- The first condition of R523 that fails for a START in a direction; `none` when it is admitted. -/
def State.notAdmitted (s : State) (d : Dir) : Option Admission :=
  if s.busy then some .a
  else if s.cfgColumns < 1 then some .b
  else if s.cfgRows < 0 then some .c
  else if !s.widthHolds then some .h
  else
    match d with
    | .encode => if !s.bitmapReady then some .d else if !s.outputFits then some .e else none
    | .decode => if !s.streamReady then some .f else if !s.rowsFit then some .g else none

/-- The `START` write (10_state.md R27; R520). -/
def State.start (s : State) (d : Dir) : Result :=
  match s.notAdmitted d with
  | some why => .refused (.startNotAdmitted why)
  | none =>
    match d with
    | .encode => .next s.startEncode
    | .decode => .next s.startDecode

/-! ### The register file (10_state.md R26) -/

/-- What a read of register `n` returns; `none` when there is no such register. -/
def State.readReg (s : State) (n : Nat) : Option Int :=
  match n with
  | 0 => some 0
  | 1 => some s.statusWord
  | 2 => some s.cfgK
  | 3 => some s.cfgFlags.toNat
  | 4 => some s.cfgDamaged
  | 5 => some s.cfgColumns
  | 6 => some s.cfgRows
  | 7 => some s.codeLen
  | 8 => some s.pixRows
  | 9 => some s.bitpos
  | _ => none

/-- A write of `CTRL` (R27): bit 0 is START, bit 1 is DIR, the others are ignored. -/
def State.writeCtrl (s : State) (v : Int) : Result :=
  if (BitVec.ofInt 2 v).getLsbD 0 then
    s.start (if (BitVec.ofInt 2 v).getLsbD 1 then .decode else .encode)
  else .next s

/-- A write of register `n` while `BUSY = 0`: `STATUS` and `BITPOS` ignore it (R26, R526), `CFG_FLAGS` drops its reserved
bits (R30). -/
def State.writeReg (s : State) (n : Nat) (v : Int) : Result :=
  match n with
  | 0 => s.writeCtrl v
  | 1 => .next s
  | 2 => .next { s with cfgK := v }
  | 3 => .next { s with cfgFlags := BitVec.ofInt 4 v }
  | 4 => .next { s with cfgDamaged := v }
  | 5 => .next { s with cfgColumns := v }
  | 6 => .next { s with cfgRows := v }
  | 7 => .next { s with codeLen := v }
  | 8 => .next { s with pixRows := v }
  | 9 => .next s
  | n => .fault (.noSuchRegister n)

/-! ### Host accesses (49_host_commands.md R526) -/

/-- An access while `BUSY = 0`. -/
def State.idleAccess (s : State) (a : Access) : Result :=
  match a with
  | .readReg n =>
    match s.readReg n with
    | some v => .next { s with hostData := v }
    | none => .fault (.noSuchRegister n)
  | .writeReg n v => s.writeReg n v
  | .readMem m o =>
    if fitsIn (s.capacity m) (o + 1) then
      match (s.mem m).read o with
      | some b => .next { s with hostData := b.toNat }
      | none => .refused (.unwrittenByte m)
    else .fault (.outsideSpace m)
  | .writeMem m o b =>
    if fitsIn (s.capacity m) (o + 1) then .next (s.writeMem m o b) else .fault (.outsideSpace m)

/-- One host access: while `BUSY = 1` only a read of `STATUS` is admitted (R526). -/
def State.hostAccess (s : State) (a : Access) : Result :=
  if s.busy then
    if a = .readReg 1 then .next { s with hostData := s.statusWord } else .refused .accessWhileBusy
  else s.idleAccess a

/-- The reset of 70_reset_and_hazards.md R580: the state of R43; the memories hold nothing written since reset (R45).
What is outside the block, the host and the block's parameters, stays (log 19). -/
def State.resetBlock (s : State) : State :=
  { State.reset with host := s.host, hostData := s.hostData, params := s.params, freeCount := s.freeCount }

/-! ### Whose turn it is (20_memory.md R75; log 1) -/

/-- The host's next move is `m`, and `rest` are those after it. -/
def State.hostMove (s : State) (m : HostMove) (rest : List HostMove) : Result :=
  match m with
  | .access a => { s with host := rest }.hostAccess a
  | .idle => { s with host := rest }.engineStep
  | .awaitDone => if s.busy then s.engineStep else .next { s with host := rest, hostData := s.statusWord }
  | .reset => .next { s with host := rest }.resetBlock

/-- One step of the block and its host: the host's next move, or, when it has none, the engine. -/
def State.machineStep (s : State) : Result :=
  match s.host with
  | [] => s.engineStep
  | m :: rest => s.hostMove m rest

/-! ### Placing one codeword where the next step fetches it (log 12) -/

/-- A call in progress, its state such that the next fetch reads in context `c`: what a START, and for a context inside a
row the codewords before it, would have made of the state. -/
def State.inCallAt (s : State) (c : Context) : State :=
  let t := { s with busy := true, done := false, dirl := .decode, err := .none, host := [], runacc := 0, col := 0,
                    hphase := .none, fstate := .decodingRow }
  match c with
  | .white => { t with cfgK := 0, color := .white }
  | .black => { t with cfgK := 0, color := .black }
  | .ctrl2d => { t with cfgK := -1, rowidx := max s.rowidx 1, color := .white, a0 := -1 }
  | .sync .eol => { t with cfgK := 0, fstate := .awaitingSync }
  | .sync .eol1 => { t with cfgK := 1, fstate := .awaitingSync }
  | .sync .eol0OrEol1 => { t with cfgK := 2, rowidx := 1, fstate := .awaitingSync }

/-- The width a call needs at least for a codeword to have room (START admits no width below 1, R32). -/
def widthFor (o : Option Instr) : Nat :=
  match o with
  | none => 8
  | some i => max 8 i.runLength

/-- A call in progress has a positive width and, for a 2D row, a reference line (R32, R481). Where the state has no whole
one, the previous row is taken as three white pixels and then black ones, so that every control code has its target
inside the line. -/
def State.withWidth (s : State) (n : Nat) : State :=
  let t := if s.cfgColumns < 1 then { s with cfgColumns := n } else s
  if t.ref.length < t.columns then
    { t with ref := List.replicate 3 .white ++ List.replicate (t.columns - 3) .black }
  else t

/-- The 16 bits of a window at the cursor, `CODE_LEN` past them, in a call that reads them next. -/
def State.placeWindow (s : State) (w : Word) (o : Option Instr) : State :=
  let t := (s.inCallAt (tableContext w)).withWidth (widthFor o)
  { t with
    code := pokeWindow w 16 s.bitpos t.code
    codeLen := max t.codeLen ((s.bitpos + 16 + 7) / 8 : Nat) }

end Sys2Proof.Machine
end

