-- ==== Sys2Proof/Machine/Step.lean ====
section
/-! DEFINITION. The step of the machine, and one codeword placed where the next step fetches it. -/

namespace Sys2Proof.Machine

/-- One step of the block and its host (Machine/Interface.lean, Machine/Engine.lean). -/
def step (s : State) : Host.Outcome State Fault Refusal := s.machineStep

/-- `s` with a word of spec/opcode_table.json's numbering stored where the next step fetches, and a decode call in
progress in the context in which the word is read (log 11, log 12). -/
def State.withFetchWord (s : State) (nbits w : Nat) : State :=
  s.placeWindow (tableWindow nbits w) (decodeTableWord nbits w)

end Sys2Proof.Machine
end

