-- ==== Sys2Proof/Safety.lean ====
section
/-! DEFINITION. What a safe state and a safe run are: the invariants of 10_state.md R44 in the form every step keeps, and
runs of several steps. -/

namespace Sys2Proof.Machine

/-- `n` steps, stopping at the first fault or refusal. -/
def run : (n : Nat) → State → Result
  | 0, s => .next s
  | n + 1, s =>
    match step s with
    | .next t => run n t
    | .fault r => .fault r
    | .refused r => .refused r

/-- Both memories are in canonical form. -/
abbrev State.MemoriesCanonical (s : State) : Prop := s.code.wf = true ∧ s.pix.wf = true

/-- The fields of `STATUS` agree (10_state.md R28, R40, R41, R44 (f)): `BUSY` in a running frame state, `DONE` in
`Terminated`, an error only in a terminated decode call. -/
abbrev State.StatusConsistent (s : State) : Prop :=
  s.busy = s.fstate.running ∧ s.done = decide (s.fstate = .terminated) ∧
  (s.err ≠ .none → s.fstate = .terminated ∧ s.dirl = .decode)

/-- The first `n` rows of `PIX` are written and hold sentinels only (49_host_commands.md R523 (d)). -/
def State.bitmapCovers (s : State) (n : Nat) : Bool :=
  match s.pix.readBlock 0 (n * s.columns) with
  | none => false
  | some bytes => bytes.all fun b => (toColour s.blackIs1 b).isSome

/-- What holds between two steps of an admitted call (10_state.md R44, R45). -/
structure State.Sound (s : State) : Prop where
  memories : s.MemoriesCanonical
  status : s.StatusConsistent
  /-- R523 (b), (c). -/
  configured : s.busy = true → 1 ≤ s.cfgColumns ∧ 0 ≤ s.cfgRows
  /-- The decoder is inside a horizontal pair only in a 2D row. -/
  pair : s.hphase ≠ .none → s.busy = true ∧ s.dirl = .decode ∧ s.fstate = .decodingRow ∧ s.rowKind = .twoD
  /-- The reference line is whole wherever a 2D row can come. -/
  reference : s.busy = true → 0 < s.rowidx ∨ s.cfgK < 0 → s.columns ≤ s.ref.length
  /-- R44 (a) and R523 (f). -/
  stream : s.busy = true → s.dirl = .decode →
    s.code.writtenBelow s.codeBytes = true ∧ s.bitpos ≤ 8 * s.codeBytes
  /-- A row that is complete, or that is being encoded, is whole. -/
  wholeRow : s.busy = true → s.fstate = .rowComplete ∨ s.dirl = .encode ∧ s.fstate = .decodingRow →
    s.columns ≤ s.cur.length
  /-- R44 (c), (d), (e) for a row being decoded. -/
  position : s.busy = true → s.dirl = .decode → s.fstate = .decodingRow →
    s.col ≤ s.columns ∧ s.col ≤ s.cur.length ∧
    (s.rowKind = .oneD → s.col < s.columns) ∧
    (s.context = some .ctrl2d → -1 ≤ s.a0 ∧ s.a0 < s.columns ∧ s.col = s.a0.toNat) ∧
    (s.context ≠ some .ctrl2d → s.col + s.runacc ≤ s.columns)
  /-- An encode call has its rows (R523 (d)). -/
  bitmap : s.busy = true → s.dirl = .encode →
    s.rowidx ≤ s.nrows ∧ (s.fstate ≠ .awaitingSync → s.rowidx < s.nrows) ∧ s.bitmapCovers s.nrows = true
  /-- R44 (b): what is left of the byte at the cursor is written and zero. -/
  tail : s.busy = true → s.dirl = .encode →
    ∀ q, s.bitpos ≤ q → q < alignUp s.bitpos → bitAt s.code q = some false

end Sys2Proof.Machine
end

