-- ==== Sys2Proof/Certificates/Slice0/Obligations.lean ====
section
/-! DEFINITION. The statements about the model, in a vocabulary of their own (`Sys2Proof.Spec`): rows written out from
the tables of spec/, bits of the stream, the states in which the engine reads a codeword, and the error stop. -/

namespace Sys2Proof.Spec

open Sys2Proof.Machine

/-! ### Bits of the stream (00_scope.md R8, R10) -/

/-- Bit `q` of a memory; `none` where its byte holds no value. -/
def bit (m : Memory) (q : Nat) : Option Bool := (m.read (q / 8)).map fun v => v.getLsbD (7 - q % 8)

/-- The bytes below `n` have been written. -/
abbrev Written (m : Memory) (n : Nat) : Prop := ∀ a, a < n → (m.read a).isSome = true

/-- A window begins with a codeword. -/
abbrev Spells (k : Code) (w : Word) : Prop := ∀ j, j < k.length → w.getLsbD (15 - j) = k.codeword.getLsbD (15 - j)

/-- A codeword's bits, first transmitted bit first. -/
def bitsOf (i : Instr) : List Bool := (List.range (encode i).length).map fun j => (encode i).codeword.getLsbD (15 - j)

/-- The bits of several codewords, back to back. -/
def bitsOfAll (is : List Instr) : List Bool := is.flatMap bitsOf

/-- From the cursor to the end of its byte the stream is written and zero (10_state.md R44 (b)). -/
abbrev CleanTail (m : Memory) (p : Nat) : Prop :=
  ∀ j, j < 8 → p + j < 8 * ((p + 7) / 8) → bit m (p + j) = some false

/-- `m'` is `m` with bits appended at `p`: the bits before `p` and the bytes behind the new end are as they were, and the
new last byte is filled with zeros. -/
abbrev Appended (m : Memory) (p : Nat) (bits : List Bool) (m' : Memory) : Prop :=
  (∀ j, j < bits.length → bit m' (p + j) = bits[j]?) ∧
  (∀ q, q < p → bit m' q = bit m q) ∧
  (∀ a, p + bits.length ≤ 8 * a → m'.read a = m.read a) ∧
  CleanTail m' (p + bits.length)

/-- The 16-bit window at the cursor of a decode call: genuine bits below `8 CODE_LEN`, zeros from there on (R380). -/
abbrev WindowAt (s : State) (w : Word) : Prop :=
  ∀ j, j < 16 →
    if ((s.bitpos + j : Nat) : Int) < 8 * s.codeLen then bit s.code (s.bitpos + j) = some (w.getLsbD (15 - j))
    else w.getLsbD (15 - j) = false

/-- At least `n` genuine bits stand at the cursor (R381). -/
abbrev Genuine (s : State) (n : Nat) : Prop := ((s.bitpos + n : Nat) : Int) ≤ 8 * s.codeLen

/-! ### Where the engine stands -/

/-- Row `i` of a call is 1D-coded (R474). -/
abbrev RowIs1D (k : Int) (i : Nat) : Prop := k = 0 ∨ 0 < k ∧ (i : Int) % k = 0

/-- A decode call inside a row. -/
abbrev InRow (s : State) : Prop := s.busy = true ∧ s.dirl = .decode ∧ s.fstate = .decodingRow

/-- A run code of colour `c` is read next: context `WHITE` or `BLACK` of 30_encoding.md R92. -/
abbrev ReadsRun (c : Colour) (s : State) : Prop :=
  InRow s ∧ s.color = c ∧ (s.hphase = .none → RowIs1D s.cfgK s.rowidx)

/-- A control code is read next: context `CTRL2D` of R92. -/
abbrev ReadsControl (s : State) : Prop := InRow s ∧ s.hphase = .none ∧ ¬ RowIs1D s.cfgK s.rowidx

/-- A decode call at a row boundary: context `SYNC` of R92. -/
abbrev AtBoundary (s : State) : Prop := s.busy = true ∧ s.dirl = .decode ∧ s.fstate = .awaitingSync

/-- An encode call in a frame state. -/
abbrev Encoding (f : FState) (s : State) : Prop := s.busy = true ∧ s.dirl = .encode ∧ s.fstate = f

/-- The reference line is whole. -/
abbrev WholeReference (s : State) : Prop := s.cfgColumns ≤ s.ref.length

/-- The error stop of 60_exceptions.md R552 for an error whose recorded position is `BITPOS` itself. `PIX` is
unspecified; so are the model's own `hphase` and `freeCount`. -/
abbrev ErrorStop (e : ErrKind) (s t : State) : Prop :=
  t = { s with
    err := e, pixRows := 0, fstate := .terminated, busy := false, done := true
    pix := t.pix, hphase := t.hphase, freeCount := t.freeCount }

/-- `finish()` of 48_frame_sync_controller.md R480 with the cursor at `p`. -/
def finishAt (s : State) (p : Nat) : State :=
  { s with bitpos := p, pixRows := s.rowidx, fstate := .terminated, busy := false, done := true }

/-- A row of a decode call begins with the cursor at `p` (the first line of R403 and R402, or of R440). -/
def rowAt (s : State) (p : Nat) : State :=
  if RowIs1D s.cfgK s.rowidx then
    { s with bitpos := p, fstate := .decodingRow, hphase := .none, color := .white, col := 0, runacc := 0 }
  else { s with bitpos := p, fstate := .decodingRow, hphase := .none, color := .white, col := 0, a0 := -1 }

/-- A row of a decode call has begun with the cursor at `p`, as R480 says it; what the row coder sets first is left
open here (the model sets it in the same step, log 2). -/
abbrev RowBegun (s : State) (p : Nat) (t : State) : Prop :=
  t = { s with
    bitpos := p, fstate := .decodingRow
    hphase := t.hphase, color := t.color, col := t.col, a0 := t.a0, runacc := t.runacc }

/-- What `decodeAwaitingSync()` of R480 makes of a state. -/
def BoundaryOutcome (s t : State) : Prop :=
  if 8 * s.codeLen ≤ s.bitpos then t = finishAt s s.bitpos
  else if RowIs1D s.cfgK s.rowidx then
    ∃ u n, u = (if 0 < s.cfgK then Instr.eol1 else Instr.eol) ∧
      countMarks s.code s.codeLen.toNat (encode u) 6 s.bitpos = some n ∧
      (if n = 6 then t = finishAt s (s.bitpos + 6 * (encode u).length)
       else if 2 ≤ n then ErrorStop .corruptTerminatorRTC s t
       else if n = 1 then RowBegun s (s.bitpos + (encode u).length) t
       else if s.cfgFlags.getLsbD 0 = true then ErrorStop .missingEOL s t
       else RowBegun s s.bitpos t)
  else if 0 < s.cfgK then
    if matchAt s.code s.codeLen.toNat s.bitpos (encode .eol0) = some true then RowBegun s (s.bitpos + 13) t
    else
      ∃ n, countMarks s.code s.codeLen.toNat (encode .eol1) 6 s.bitpos = some n ∧
        (if n = 6 then t = finishAt s (s.bitpos + 78)
         else if 2 ≤ n then ErrorStop .corruptTerminatorRTC s t
         else if s.cfgFlags.getLsbD 0 = true then ErrorStop .missingEOL s t
         else RowBegun s s.bitpos t)
  else
    ∃ n, countMarks s.code s.codeLen.toNat (encode .eol) 2 s.bitpos = some n ∧
      (if n = 2 then t = finishAt s (s.bitpos + 24)
       else if n = 1 then ErrorStop .corruptTerminatorEOFB s t
       else RowBegun s s.bitpos t)

/-! ### Lines (47_row_coder_2d.md R420) -/

/-- Position `p` is a changing element of a line. -/
abbrev Changing (l : Line) (p : Nat) : Prop :=
  l.getD p .white ≠ if p = 0 then Colour.white else l.getD (p - 1) .white

/-- Cells `start .. stop - 1` painted. -/
abbrev Painted (l l' : Line) (start stop : Nat) (c : Colour) : Prop :=
  ∀ q, l'[q]? = if start ≤ q ∧ q < stop then some c else l[q]?

/-- The line that alternating runs draw, the first of colour `c`. -/
def paint (c : Colour) : List Nat → Line
  | [] => []
  | r :: rs => List.replicate r c ++ paint c.opp rs

/-- The codewords of alternating runs, the first of colour `c`. -/
def runsCodes (c : Colour) : List Nat → List Instr
  | [] => []
  | r :: rs => runCodes c r ++ runsCodes c.opp rs

/-- The sentinel byte of a colour (20_memory.md R66). -/
def sentinel (blackIs1 : Bool) : Colour → Byte
  | .white => if blackIs1 then 0 else 1
  | .black => if blackIs1 then 1 else 0

/-! ### Chains of run codes (30_encoding.md R97) -/

/-- Zero or more makeup codes and one terminal code, all of colour `c`, whose run lengths sum to `n`. -/
def IsRun (c : Colour) (is : List Instr) (n : Nat) : Prop :=
  ∃ ms t, is = ms ++ [t] ∧ (∀ m, m ∈ ms → m ∈ makeups c ++ sharedMakeups) ∧ t ∈ terminals c ∧
    n = (is.map Instr.runLength).sum

/-- How many bits codewords have. -/
def bitCount (is : List Instr) : Nat := (is.map fun i => (encode i).length).sum

/-- Codewords executed one after another. -/
def execAll : List Instr → State → Result
  | [], s => .next s
  | i :: is, s =>
    match exec i s with
    | .next t => execAll is t
    | .fault f => .fault f
    | .refused r => .refused r

/-- Coding steps of a 2D row, one after another (47_row_coder_2d.md R439). -/
def codingSteps : Nat → State → Option State
  | 0, s => some s
  | n + 1, s => s.encodeModeStep.bind (codingSteps n)

/-! ### What reset leaves (10_state.md R43) -/

/-- The values R43 gives; it leaves the working registers, the line buffers and the memories unspecified. -/
abbrev ResetValues (s : State) : Prop :=
  s.busy = false ∧ s.done = false ∧ s.dirl = .encode ∧ s.fstate = .idle ∧ s.err = .none ∧
  s.cfgK = 0 ∧ s.cfgFlags = 0 ∧ s.cfgDamaged = 0 ∧ s.cfgColumns = 0 ∧ s.cfgRows = 0 ∧
  s.codeLen = 0 ∧ s.pixRows = 0 ∧ s.bitpos = 0

/-- The two directions' frame steps of R479, `AwaitingSync`, `DecodingRow`, `RowComplete` onwards. -/
def frameSteps : List (Dir × FState × FState) :=
  [(.decode, .awaitingSync, .decodingRow), (.decode, .awaitingSync, .terminated),
   (.decode, .decodingRow, .rowComplete), (.decode, .decodingRow, .terminated),
   (.decode, .rowComplete, .awaitingSync), (.decode, .rowComplete, .terminated),
   (.encode, .awaitingSync, .decodingRow), (.encode, .awaitingSync, .terminated),
   (.encode, .decodingRow, .rowComplete), (.encode, .rowComplete, .awaitingSync)]

/-! ### Rows of the tables: codeword, operand, number of bits -/

/-- 41_codes_white_terminal.md. -/
def whiteTerminalRows : List (Instr × Nat × Nat) :=
  [(.w0, 0, 8), (.w1, 1, 6), (.w2, 2, 4), (.w3, 3, 4), (.w4, 4, 4), (.w5, 5, 4), (.w6, 6, 4), (.w7, 7, 4),
   (.w8, 8, 5), (.w9, 9, 5), (.w10, 10, 5), (.w11, 11, 5), (.w12, 12, 6), (.w13, 13, 6), (.w14, 14, 6),
   (.w15, 15, 6), (.w16, 16, 6), (.w17, 17, 6), (.w18, 18, 7), (.w19, 19, 7), (.w20, 20, 7), (.w21, 21, 7),
   (.w22, 22, 7), (.w23, 23, 7), (.w24, 24, 7), (.w25, 25, 7), (.w26, 26, 7), (.w27, 27, 7), (.w28, 28, 7),
   (.w29, 29, 8), (.w30, 30, 8), (.w31, 31, 8), (.w32, 32, 8), (.w33, 33, 8), (.w34, 34, 8), (.w35, 35, 8),
   (.w36, 36, 8), (.w37, 37, 8), (.w38, 38, 8), (.w39, 39, 8), (.w40, 40, 8), (.w41, 41, 8), (.w42, 42, 8),
   (.w43, 43, 8), (.w44, 44, 8), (.w45, 45, 8), (.w46, 46, 8), (.w47, 47, 8), (.w48, 48, 8), (.w49, 49, 8),
   (.w50, 50, 8), (.w51, 51, 8), (.w52, 52, 8), (.w53, 53, 8), (.w54, 54, 8), (.w55, 55, 8), (.w56, 56, 8),
   (.w57, 57, 8), (.w58, 58, 8), (.w59, 59, 8), (.w60, 60, 8), (.w61, 61, 8), (.w62, 62, 8), (.w63, 63, 8)]

/-- 42_codes_black_terminal.md. -/
def blackTerminalRows : List (Instr × Nat × Nat) :=
  [(.b0, 0, 10), (.b1, 1, 3), (.b2, 2, 2), (.b3, 3, 2), (.b4, 4, 3), (.b5, 5, 4), (.b6, 6, 4), (.b7, 7, 5),
   (.b8, 8, 6), (.b9, 9, 6), (.b10, 10, 7), (.b11, 11, 7), (.b12, 12, 7), (.b13, 13, 8), (.b14, 14, 8),
   (.b15, 15, 9), (.b16, 16, 10), (.b17, 17, 10), (.b18, 18, 10), (.b19, 19, 11), (.b20, 20, 11),
   (.b21, 21, 11), (.b22, 22, 11), (.b23, 23, 11), (.b24, 24, 11), (.b25, 25, 11), (.b26, 26, 12),
   (.b27, 27, 12), (.b28, 28, 12), (.b29, 29, 12), (.b30, 30, 12), (.b31, 31, 12), (.b32, 32, 12),
   (.b33, 33, 12), (.b34, 34, 12), (.b35, 35, 12), (.b36, 36, 12), (.b37, 37, 12), (.b38, 38, 12),
   (.b39, 39, 12), (.b40, 40, 12), (.b41, 41, 12), (.b42, 42, 12), (.b43, 43, 12), (.b44, 44, 12),
   (.b45, 45, 12), (.b46, 46, 12), (.b47, 47, 12), (.b48, 48, 12), (.b49, 49, 12), (.b50, 50, 12),
   (.b51, 51, 12), (.b52, 52, 12), (.b53, 53, 12), (.b54, 54, 12), (.b55, 55, 12), (.b56, 56, 12),
   (.b57, 57, 12), (.b58, 58, 12), (.b59, 59, 12), (.b60, 60, 12), (.b61, 61, 12), (.b62, 62, 12),
   (.b63, 63, 12)]

/-- 43_codes_makeup.md, the white rows. -/
def whiteMakeupRows : List (Instr × Nat × Nat) :=
  [(.wm64, 64, 5), (.wm128, 128, 5), (.wm192, 192, 6), (.wm256, 256, 7), (.wm320, 320, 8), (.wm384, 384, 8),
   (.wm448, 448, 8), (.wm512, 512, 8), (.wm576, 576, 8), (.wm640, 640, 8), (.wm704, 704, 9), (.wm768, 768, 9),
   (.wm832, 832, 9), (.wm896, 896, 9), (.wm960, 960, 9), (.wm1024, 1024, 9), (.wm1088, 1088, 9),
   (.wm1152, 1152, 9), (.wm1216, 1216, 9), (.wm1280, 1280, 9), (.wm1344, 1344, 9), (.wm1408, 1408, 9),
   (.wm1472, 1472, 9), (.wm1536, 1536, 9), (.wm1600, 1600, 9), (.wm1664, 1664, 6), (.wm1728, 1728, 9)]

/-- 43_codes_makeup.md, the black rows. -/
def blackMakeupRows : List (Instr × Nat × Nat) :=
  [(.bm64, 64, 10), (.bm128, 128, 12), (.bm192, 192, 12), (.bm256, 256, 12), (.bm320, 320, 12), (.bm384, 384, 12),
   (.bm448, 448, 12), (.bm512, 512, 13), (.bm576, 576, 13), (.bm640, 640, 13), (.bm704, 704, 13),
   (.bm768, 768, 13), (.bm832, 832, 13), (.bm896, 896, 13), (.bm960, 960, 13), (.bm1024, 1024, 13),
   (.bm1088, 1088, 13), (.bm1152, 1152, 13), (.bm1216, 1216, 13), (.bm1280, 1280, 13), (.bm1344, 1344, 13),
   (.bm1408, 1408, 13), (.bm1472, 1472, 13), (.bm1536, 1536, 13), (.bm1600, 1600, 13), (.bm1664, 1664, 13),
   (.bm1728, 1728, 13)]

/-- 43_codes_makeup.md, the shared rows. -/
def sharedMakeupRows : List (Instr × Nat × Nat) :=
  [(.xm1792, 1792, 11), (.xm1856, 1856, 11), (.xm1920, 1920, 11), (.xm1984, 1984, 12), (.xm2048, 2048, 12),
   (.xm2112, 2112, 12), (.xm2176, 2176, 12), (.xm2240, 2240, 12), (.xm2304, 2304, 12), (.xm2368, 2368, 12),
   (.xm2432, 2432, 12), (.xm2496, 2496, 12), (.xm2560, 2560, 12)]

/-- 47_row_coder_2d.md R432 to R438: codeword, offset, number of bits. -/
def verticalRows : List (Instr × Int × Nat) :=
  [(.v0, 0, 1), (.vr1, 1, 3), (.vr2, 2, 6), (.vr3, 3, 7), (.vl1, -1, 3), (.vl2, -2, 6), (.vl3, -3, 7)]

/-- The terminal rows of a colour. -/
def terminalRows : Colour → List (Instr × Nat × Nat)
  | .white => whiteTerminalRows
  | .black => blackTerminalRows

/-- The makeup rows read in a colour's context; the shared ones are read in both. -/
def makeupRows : Colour → List (Instr × Nat × Nat)
  | .white => whiteMakeupRows ++ sharedMakeupRows
  | .black => blackMakeupRows ++ sharedMakeupRows

end Sys2Proof.Spec

open Sys2Proof Sys2Proof.Machine

/-! ### Codewords and their bits -/

/-- Decode and encode agree: in each of its contexts (R92) every codeword is read from any window that begins with its
bits, whatever follows them (the "iff" of 44_decoding_tree.md R367, which the spec marks as derived, and R386). -/
def Obligations.DecodeReadsBackEveryCodeword : Prop :=
  ∀ (c : Context) (i : Instr) (w : Word) (avail : Nat), i ∈ c.codewords → Spec.Spells (encode i) w →
    (encode i).length ≤ avail → decode c w avail = .instr i

/-- The other direction: what the decoder answers is a codeword of the context, the window begins with its bits, and a
marker is answered only when it is wholly genuine (R367, R386). -/
def Obligations.DecodedCodewordsAreSpelled : Prop :=
  ∀ (c : Context) (i : Instr) (w : Word) (avail : Nat), decode c w avail = .instr i →
    i ∈ c.codewords ∧ Spec.Spells (encode i) w ∧ ((∃ set, c = .sync set) → (encode i).length ≤ avail)

/-- The invalid windows are exactly those of 30_encoding.md R102 (which the spec marks as derived from its tables), and
in a tree context every other window spells a codeword. -/
def Obligations.InvalidWindowsAreTheZeroPrefixes : Prop :=
  (∀ (c : Context) (w : Word) (avail : Nat), c = .white ∨ c = .black →
    (w.toNat < 0x100 → decode c w avail = .reject .invalidRunCode) ∧
    (0x100 ≤ w.toNat → ∃ i, i ∈ c.codewords ∧ decode c w avail = .instr i)) ∧
  ∀ (w : Word) (avail : Nat),
    (w.toNat < 0x400 → decode .ctrl2d w avail = .reject .invalidControlCode) ∧
    (0x400 ≤ w.toNat → ∃ i, i ∈ controlCodes ∧ decode .ctrl2d w avail = .instr i)

/-- R127: within one tree's contents no codeword is a bit prefix of another. -/
def Obligations.CodewordSetsArePrefixFree : Prop :=
  ∀ c, c ∈ [Context.white, .black, .ctrl2d] → ∀ i, i ∈ c.codewords → ∀ j, j ∈ c.codewords → i ≠ j →
    (encode i).length ≤ (encode j).length →
    ∃ k, k < (encode i).length ∧ (encode i).codeword.getLsbD (15 - k) ≠ (encode j).codeword.getLsbD (15 - k)

/-- R364: the three trees are what `insert` builds from the contents the rule gives them, in the order of the tables; a
control code's stored run length is the placeholder 0, and the sync codes are in no tree. -/
def Obligations.TreesAreWhatInsertBuilds : Prop :=
  whiteTree = Tree.build (whiteTerminals ++ whiteMakeups ++ sharedMakeups) ∧
  blackTree = Tree.build (blackTerminals ++ blackMakeups ++ sharedMakeups) ∧
  ctrlTree = Tree.build [.p, .h, .v0, .vr1, .vr2, .vr3, .vl1, .vl2, .vl3] ∧
  (whiteTerminals ++ whiteMakeups ++ sharedMakeups).length = 104 ∧
  (blackTerminals ++ blackMakeups ++ sharedMakeups).length = 104 ∧
  (∀ i, i ∈ controlCodes → i.runLength = 0) ∧
  ∀ i, i ∈ [Instr.eol, .eol0, .eol1] → ∀ c, c ∈ [Context.white, .black, .ctrl2d] → i ∉ c.codewords

/-- "The order of insertion does not matter" (70_reset_and_hazards.md R581; R367, which the spec marks as derived). -/
def Obligations.InsertionOrderDoesNotMatter : Prop :=
  ∀ codes : List Instr,
    (codes.Perm (whiteTerminals ++ whiteMakeups ++ sharedMakeups) → Tree.build codes = whiteTree) ∧
    (codes.Perm (blackTerminals ++ blackMakeups ++ sharedMakeups) → Tree.build codes = blackTree) ∧
    (codes.Perm controlCodes → Tree.build codes = ctrlTree)

/-- The sum law R126 (which the spec marks as derived from R125): the chain of a run is zero or more makeup codes and
one terminal code of its colour, and their run lengths sum to the run. -/
def Obligations.RunCodesSumToTheRun : Prop :=
  ∀ (c : Colour) (r : Nat), Spec.IsRun c (runCodes c r) r

/-- Words written out from the spec's encodings, with other bits behind them, decode to what they stand for (a sanity
statement; R140, R204, R240, R304, R340, R430, R434, R437, R470 to R472). -/
def Obligations.WordsDecodeAsWritten : Prop :=
  decode .white 0b0011010111111111#16 16 = .instr .w0 ∧
  decode .white 0b1101100110101000#16 16 = .instr .wm64 ∧
  decode .black 0b0000110111010101#16 16 = .instr .b0 ∧
  decode .black 0b0000001111000000#16 16 = .instr .bm64 ∧
  decode .white 0b0000000100011111#16 16 = .instr .xm1792 ∧
  decode .black 0b0000000100011111#16 16 = .instr .xm1792 ∧
  decode .ctrl2d 0b0001111111111111#16 16 = .instr .p ∧
  decode .ctrl2d 0b0000110000000000#16 16 = .instr .vr2 ∧
  decode .ctrl2d 0b0000101111111111#16 16 = .instr .vl2 ∧
  decode (.sync .eol) 0b0000000000011111#16 12 = .instr .eol ∧
  decode (.sync .eol0OrEol1) 0b0000000000010111#16 13 = .instr .eol0 ∧
  decode (.sync .eol0OrEol1) 0b0000000000011111#16 13 = .instr .eol1 ∧
  decode (.sync .eol1) 0b0000000000011000#16 12 = .reject .noMarker

/-! ### The bit stream -/

/-- R380: `fetch_next_code` gives the 16 bits at a position, zeros behind the last genuine bit, how many are genuine, and
the position behind them. -/
def Obligations.FetchReadsTheStream : Prop :=
  ∀ (m : Memory) (n p : Nat), Spec.Written m n →
    ∃ w, fetchNextCode m n p = some ⟨w, min 16 (8 * n - p), p + min 16 (8 * n - p)⟩ ∧
      ∀ j, j < 16 →
        if p + j < 8 * n then Spec.bit m (p + j) = some (w.getLsbD (15 - j)) else w.getLsbD (15 - j) = false

/-- R386: `matchAt` is true exactly where the whole codeword stands in genuine bits. -/
def Obligations.MatchAtTestsAWholeCodeword : Prop :=
  ∀ (m : Memory) (n p : Nat) (k : Code), Spec.Written m n → k.wf = true →
    ∃ b, matchAt m n p k = some b ∧
      (b = true ↔ p + k.length ≤ 8 * n ∧
        ∀ j, j < k.length → Spec.bit m (p + j) = some (k.codeword.getLsbD (15 - j)))

/-- R382: `add_code` appends a codeword's bits at a position and leaves every other byte and every earlier bit as it
was; a byte is filled with zeros when the cursor enters it (R383). The engine calls it at `BITPOS` and moves the cursor
behind the codeword. -/
def Obligations.AddCodeAppendsItsBits : Prop :=
  (∀ (m : Memory) (p : Nat) (i : Instr), Spec.CleanTail m p →
    ∃ m', addCode m p (encode i) = some m' ∧ Spec.Appended m p (Spec.bitsOf i) m') ∧
  ∀ (s : State) (i : Instr) (m' : Memory), addCode s.code s.bitpos (encode i) = some m' →
    s.emit i = some { s with code := m', bitpos := s.bitpos + (encode i).length }

/-- What `add_code` wrote is fetched and decoded back, at any bit offset and whatever is written behind it later
(from R382, R380 and R367). -/
def Obligations.EmittedCodewordsAreReadBack : Prop :=
  ∀ (c : Context) (i : Instr) (m m' m'' : Memory) (p n : Nat), i ∈ c.codewords → Spec.CleanTail m p →
    addCode m p (encode i) = some m' → Spec.Written m'' n → p + (encode i).length ≤ 8 * n →
    (∀ q, q < p + (encode i).length → p ≤ q → Spec.bit m'' q = Spec.bit m' q) →
    ∃ f, fetchNextCode m'' n p = some f ∧ decode c f.window f.avail = .instr i

/-! ### Run codes -/

/-- R404: a terminal code of a 1D row ends the run, which is drawn in its colour; `COLOR` flips; the row ends exactly
when `COL` reaches `Columns`. All 128 terminal codes; nothing else changes. -/
def Obligations.TerminalCodeEndsARunOfA1DRow : Prop :=
  ∀ (c : Colour) (i : Instr) (r n e : Nat) (s : State), (i, r, n) ∈ Spec.terminalRows c →
    Spec.ReadsRun c s → s.hphase = .none → Spec.Genuine s n →
    e = s.col + (s.runacc + r) → (e : Int) ≤ s.cfgColumns →
    exec i s = .next { s with
      bitpos := s.bitpos + n, runacc := 0, cur := s.cur.fill s.col e c, col := e, color := c.opp
      fstate := if (e : Int) = s.cfgColumns then .rowComplete else .decodingRow }

/-- A terminal code inside a horizontal pair (47_row_coder_2d.md R431, R440): after the first run the second is read in
the opposite colour; after the second `A0 <- COL`, and the row ends when `COL` reaches `Columns`. All 128 terminal codes.
Which run of the pair is being read is the model's own field `hphase` (log 3). -/
def Obligations.TerminalCodeEndsARunOfAPair : Prop :=
  ∀ (c : Colour) (i : Instr) (r n e : Nat) (s : State), (i, r, n) ∈ Spec.terminalRows c →
    Spec.InRow s → s.color = c → Spec.Genuine s n →
    e = s.col + (s.runacc + r) → (e : Int) ≤ s.cfgColumns →
    (s.hphase = .first →
      exec i s = .next { s with
        bitpos := s.bitpos + n, runacc := 0, cur := s.cur.fill s.col e c, col := e, color := c.opp
        hphase := .second }) ∧
    (s.hphase = .second →
      exec i s = .next { s with
        bitpos := s.bitpos + n, runacc := 0, cur := s.cur.fill s.col e c, col := e, color := c.opp
        hphase := .none, a0 := e
        fstate := if (e : Int) = s.cfgColumns then .rowComplete else .decodingRow })

/-- R405: a makeup code grows the pending run and does nothing else but move the cursor; in a 1D row or in a pair. All
54 makeup codes of the colours and, in either colour, the 13 shared ones. -/
def Obligations.MakeupCodeExtendsTheRun : Prop :=
  ∀ (c : Colour) (i : Instr) (r n : Nat) (s : State), (i, r, n) ∈ Spec.makeupRows c →
    Spec.ReadsRun c s → Spec.Genuine s n → ((s.col + (s.runacc + r) : Nat) : Int) ≤ s.cfgColumns →
    exec i s = .next { s with bitpos := s.bitpos + n, runacc := s.runacc + r }

/-- `fill` writes the cells it is told to, in a line that is written up to where it starts, and no other (the loops of
R404, R430, R441). -/
def Obligations.FillPaintsItsCells : Prop :=
  ∀ (l : Line) (start stop : Nat) (c : Colour), start ≤ stop → start ≤ l.length →
    Spec.Painted l (l.fill start stop c) start stop c

/-- R97: zero or more makeup codes followed by one terminal code, all of the run's colour, are one run whose length is the
sum of theirs; here in a 1D row, from the start of a run. -/
def Obligations.AChainOfRunCodesIsOneRun : Prop :=
  ∀ (c : Colour) (is : List Instr) (n e : Nat) (s : State), Spec.IsRun c is n →
    Spec.ReadsRun c s → s.hphase = .none → s.runacc = 0 → Spec.Genuine s (Spec.bitCount is) →
    e = s.col + n → (e : Int) ≤ s.cfgColumns →
    Spec.execAll is s = .next { s with
      bitpos := s.bitpos + Spec.bitCount is, cur := s.cur.fill s.col e c, col := e, color := c.opp
      fstate := if (e : Int) = s.cfgColumns then .rowComplete else .decodingRow }

/-! ### Control codes -/

/-- R430: pass mode draws the line up to `b2` in the current colour and moves `A0` and `COL` there without a flip; too
few genuine bits are `BufferExhausted`; the encoder emits `P` when `selectMode` says pass. -/
def Obligations.PassCode : Prop :=
  (∀ s : State, Spec.ReadsControl s → Spec.Genuine s 4 → Spec.WholeReference s →
    exec .p s = .next { s with
      bitpos := s.bitpos + 4, cur := s.cur.fill s.col s.b2 s.color, a0 := (s.b2 : Nat), col := s.b2
      fstate := if s.cfgColumns ≤ s.b2 then .rowComplete else .decodingRow }) ∧
  (∀ s : State, Spec.ReadsControl s → ¬ Spec.Genuine s 4 →
    ∃ t, exec .p s = .next t ∧ Spec.ErrorStop .bufferExhausted s t) ∧
  ∀ s t : State, selectMode s.a1 s.b1 s.b2 = .pass → s.emit .p = some t →
    s.encodeModeStep = some { t with a0 := (s.b2 : Nat), col := s.b2 }

/-- Horizontal mode (47_row_coder_2d.md R431): `H` itself only moves the cursor and makes two runs follow; `RUNACC` is
cleared, as `decodeRun` begins (R402). That the first run follows is said by the model's own field `hphase` (log 3). -/
def Obligations.HorizontalCodeBeginsAPair : Prop :=
  ∀ s : State, Spec.ReadsControl s → Spec.Genuine s 3 → Spec.WholeReference s →
    exec .h s = .next { s with bitpos := s.bitpos + 3, hphase := .first, runacc := 0 }

/-- A horizontal pair as a whole (R431, R439). Decode: `H` and the chains of its two runs draw the first run in the current
colour and the second in the opposite one, set `A0` and `COL` behind them, and leave `COLOR` as it was. Encode: when
`selectMode` says horizontal for the positions of R423 to R426, the coding step appends `H`, the chain of `a1 - max(A0, 0)`
in the current colour and that of `a2 - a1` in the opposite one, sets `A0` and `COL` to `a2` and changes nothing else. -/
def Obligations.AHorizontalPairDrawsTwoRuns : Prop :=
  (∀ (s : State) (is js : List Instr) (n m x y : Nat), Spec.ReadsControl s → Spec.WholeReference s →
    Spec.IsRun s.color is n → Spec.IsRun s.color.opp js m →
    Spec.Genuine s (3 + Spec.bitCount is + Spec.bitCount js) →
    x = s.col + n → y = x + m → (y : Int) ≤ s.cfgColumns →
    Spec.execAll (.h :: (is ++ js)) s = .next { s with
      bitpos := s.bitpos + (3 + Spec.bitCount is + Spec.bitCount js), runacc := 0
      cur := (s.cur.fill s.col x s.color).fill x y s.color.opp, a0 := (y : Nat), col := y
      fstate := if (y : Int) = s.cfgColumns then .rowComplete else .decodingRow }) ∧
  ∀ (s : State) (a1 a2 b1 b2 : Nat) (is : List Instr), Spec.CleanTail s.code s.bitpos →
    a1 = findA1 s.cur s.cfgColumns.toNat s.a0 s.color → a2 = findA1 s.cur s.cfgColumns.toNat a1 s.color.opp →
    b1 = findB1 s.ref s.cfgColumns.toNat s.a0 s.color → b2 = findB2 s.ref s.cfgColumns.toNat b1 →
    selectMode a1 b1 b2 = .horizontal →
    is = .h :: (runCodes s.color ((a1 : Int) - max s.a0 0).toNat ++ runCodes s.color.opp (a2 - a1)) →
    ∃ m, Spec.Appended s.code s.bitpos (Spec.bitsOfAll is) m ∧
      s.encodeModeStep = some { s with
        code := m, bitpos := s.bitpos + Spec.bitCount is, a0 := (a2 : Nat), col := a2 }

/-- R441 with R432 to R438: a vertical code draws up to `b1 + d`, moves `A0` and `COL` there and flips `COLOR`; a target
at or left of `A0` or beyond the line is `RunOutOfRange`; too few genuine bits are `BufferExhausted`; the encoder emits
the code of an offset when `selectMode` says vertical with that offset. All seven codes. -/
def Obligations.VerticalCodes : Prop :=
  ∀ (i : Instr) (d : Int) (n : Nat), (i, d, n) ∈ Spec.verticalRows →
    (∀ (s : State) (a : Nat), Spec.ReadsControl s → Spec.Genuine s n → Spec.WholeReference s →
      (a : Int) = s.b1 + d → s.a0 < a → (a : Int) ≤ s.cfgColumns →
      exec i s = .next { s with
        bitpos := s.bitpos + n, cur := s.cur.fill s.col a s.color, a0 := (a : Nat), col := a, color := s.color.opp
        fstate := if (a : Int) = s.cfgColumns then .rowComplete else .decodingRow }) ∧
    (∀ s : State, Spec.ReadsControl s → Spec.Genuine s n → Spec.WholeReference s → 0 ≤ s.cfgColumns →
      (s.b1 + d ≤ s.a0 ∨ s.cfgColumns < s.b1 + d) →
      ∃ t, exec i s = .next t ∧ Spec.ErrorStop .runOutOfRange s t) ∧
    (∀ s : State, Spec.ReadsControl s → ¬ Spec.Genuine s n →
      ∃ t, exec i s = .next t ∧ Spec.ErrorStop .bufferExhausted s t) ∧
    ∀ s t : State, selectMode s.a1 s.b1 s.b2 = .vertical d → s.emit i = some t →
      s.encodeModeStep = some { t with a0 := (s.a1 : Nat), color := s.color.opp, col := s.a1 }

/-! ### Positions -/

/-- R423 and R424: `findA1` is the first position right of `a0` whose colour is not `c`, or `Columns`; `a1` is that of
`CUR` from `A0` in `COLOR`, `a2` that from `a1` in the opposite colour. -/
def Obligations.FindA1IsTheNextChange : Prop :=
  (∀ (l : Line) (cols : Nat) (a0 : Int) (c : Colour), cols ≤ l.length → -1 ≤ a0 → a0 ≤ cols →
    (a0 < cols → a0 < findA1 l cols a0 c) ∧ findA1 l cols a0 c ≤ cols ∧
    (a0 = cols → findA1 l cols a0 c = cols) ∧
    (∀ q : Nat, a0 < q → q < findA1 l cols a0 c → l[q]? = some c) ∧
    (findA1 l cols a0 c < cols → l[findA1 l cols a0 c]? = some c.opp)) ∧
  ∀ s : State, s.a1 = findA1 s.cur s.cfgColumns.toNat s.a0 s.color ∧
    s.a2 = findA1 s.cur s.cfgColumns.toNat s.a1 s.color.opp

/-- R425 and R426: `b1` is the first changing element right of `a0` of the colour opposite to `c`, `b2` the next changing
element after `b1`; either is `Columns` where there is none. The coder's `b1` is that of `REF` from `A0` in `COLOR`. -/
def Obligations.FindB1AndB2AreChangingElements : Prop :=
  (∀ (l : Line) (cols : Nat) (a0 : Int) (c : Colour) (b1 b2 : Nat), cols ≤ l.length → -1 ≤ a0 → a0 ≤ cols →
    b1 = findB1 l cols a0 c → b2 = findB2 l cols b1 →
    (a0 < cols → a0 < b1) ∧ b1 ≤ cols ∧ (a0 = cols → b1 = cols) ∧
    (b1 < cols → Spec.Changing l b1 ∧ l[b1]? = some c.opp) ∧
    (∀ q : Nat, a0 < q → q < b1 → ¬ (Spec.Changing l q ∧ l[q]? = some c.opp)) ∧
    (b1 < cols → b1 < b2) ∧ b2 ≤ cols ∧ (b1 = cols → b2 = cols) ∧
    (b2 < cols → Spec.Changing l b2) ∧
    ∀ q : Nat, b1 < q → q < b2 → ¬ Spec.Changing l q) ∧
  ∀ s : State, s.b1 = findB1 s.ref s.cfgColumns.toNat s.a0 s.color ∧
    s.b2 = findB2 s.ref s.cfgColumns.toNat s.b1

/-- R429: pass exactly when `b2 < a1`; else vertical exactly when `|a1 - b1| ≤ 3`, with the offset `a1 - b1`; else
horizontal. -/
def Obligations.ModeSelection : Prop :=
  ∀ a1 b1 b2 : Nat,
    (selectMode a1 b1 b2 = .pass ↔ b2 < a1) ∧
    (∀ d : Int, selectMode a1 b1 b2 = .vertical d ↔ a1 ≤ b2 ∧ d = (a1 : Int) - b1 ∧ -3 ≤ d ∧ d ≤ 3) ∧
    (selectMode a1 b1 b2 = .horizontal ↔ a1 ≤ b2 ∧ 3 < ((a1 : Int) - b1).natAbs)

/-! ### Errors inside a row -/

/-- R542: where a control code is due and 16 bits are genuine, six zero bits raise `InvalidControlCode` at the first bit
of the window; any other window spells a control code, and that codeword is executed. -/
def Obligations.InvalidControlCodeIsRaised : Prop :=
  ∀ (s : State) (w : Word), s.host = [] → Spec.ReadsControl s → Spec.Genuine s 16 → Spec.WindowAt s w →
    ((∀ j, j < 6 → w.getLsbD (15 - j) = false) →
      ∃ t, step s = .next t ∧ Spec.ErrorStop .invalidControlCode s t) ∧
    (¬ (∀ j, j < 6 → w.getLsbD (15 - j) = false) →
      ∃ i, i ∈ controlCodes ∧ Spec.Spells (encode i) w ∧ step s = exec i s)

/-- R543: where a run code is due, of a 1D row or of a pair, and 16 bits are genuine, eight zero bits raise
`InvalidRunCode` at the first bit of the window; any other window spells a run code of the colour, and it is executed. -/
def Obligations.InvalidRunCodeIsRaised : Prop :=
  ∀ (c : Colour) (s : State) (w : Word), s.host = [] → Spec.ReadsRun c s → Spec.Genuine s 16 →
    Spec.WindowAt s w →
    ((∀ j, j < 8 → w.getLsbD (15 - j) = false) →
      ∃ t, step s = .next t ∧ Spec.ErrorStop .invalidRunCode s t) ∧
    (¬ (∀ j, j < 8 → w.getLsbD (15 - j) = false) →
      ∃ i, i ∈ terminals c ++ makeups c ++ sharedMakeups ∧ Spec.Spells (encode i) w ∧ step s = exec i s)

/-- R547: inside a row `BufferExhausted` is raised at the first bit of the window (i) when fewer than 16 bits are genuine
and no codeword of the context is spelled, (ii) when the spelled codeword is longer than the genuine bits; never at a row
boundary. -/
def Obligations.BufferExhaustedIsRaised : Prop :=
  (∀ (s : State) (w : Word) (c : Context), s.host = [] → Spec.WindowAt s w →
    (c = .ctrl2d ∧ Spec.ReadsControl s ∨ ∃ k, c = Context.ofColour k ∧ Spec.ReadsRun k s) →
    (¬ Spec.Genuine s 16 → (∀ i, i ∈ c.codewords → ¬ Spec.Spells (encode i) w) →
      ∃ t, step s = .next t ∧ Spec.ErrorStop .bufferExhausted s t) ∧
    (∀ i, i ∈ c.codewords → Spec.Spells (encode i) w → ¬ Spec.Genuine s (encode i).length →
      ∃ t, step s = .next t ∧ Spec.ErrorStop .bufferExhausted s t)) ∧
  ∀ s t : State, s.host = [] → Spec.AtBoundary s → s.err = .none → step s = .next t → t.err ≠ .bufferExhausted

/-- R548: `RunOutOfRange` is raised (i) by a run code that would take the line past `Columns`, (ii) by a vertical code
whose target is at or left of `A0` or beyond `Columns`; at the first bit of the codeword. -/
def Obligations.RunOutOfRangeIsRaised : Prop :=
  (∀ (c : Colour) (i : Instr) (r n : Nat) (s : State), (i, r, n) ∈ Spec.terminalRows c ++ Spec.makeupRows c →
    Spec.ReadsRun c s → Spec.Genuine s n → 0 ≤ s.cfgColumns →
    s.cfgColumns < ((s.col + s.runacc + r : Nat) : Int) →
    ∃ t, exec i s = .next t ∧ Spec.ErrorStop .runOutOfRange s t) ∧
  ∀ (i : Instr) (d : Int) (n : Nat) (s : State), (i, d, n) ∈ Spec.verticalRows →
    Spec.ReadsControl s → Spec.Genuine s n → Spec.WholeReference s → 0 ≤ s.cfgColumns →
    (s.b1 + d ≤ s.a0 ∨ s.cfgColumns < s.b1 + d) →
    ∃ t, exec i s = .next t ∧ Spec.ErrorStop .runOutOfRange s t

/-- R552: whenever a step of a decode call ends with an error, it is the error stop, and nothing but what the rule names
has changed; `PIX`, which the rule leaves unspecified, is left open. -/
def Obligations.EveryErrorIsAnErrorStop : Prop :=
  ∀ s t : State, s.host = [] → s.busy = true → s.err = .none → step s = .next t → t.err ≠ .none →
    s.dirl = .decode ∧ Spec.ErrorStop t.err s t

/-! ### Row boundaries -/

/-- R475: `countMarks` is how many copies of a codeword stand back to back, up to its limit. -/
def Obligations.CountMarksCountsCopies : Prop :=
  ∀ (m : Memory) (n : Nat) (k : Code) (max q : Nat), Spec.Written m n →
    ∃ j, countMarks m n k max q = some j ∧ j ≤ max ∧
      (∀ x, x < j → matchAt m n (q + x * k.length) k = some true) ∧
      (j < max → matchAt m n (q + j * k.length) k = some false)

/-- The three sync codes at a row boundary (R470 to R472 inside R480): `EOL` with no second one behind it is the prefix
of a row of a `K = 0` call, six are its terminator, two that of a `K < 0` call; `EOL0` is the prefix of a 2D row of a
`K > 0` call; `EOL1` that of a 1D row, six are the terminator, and without `EndOfLine` a lone one before a 2D row is not
consumed. The row's start (R403, R440) is part of the same step of the model (log 2). -/
def Obligations.SyncCodesAtARowBoundary : Prop :=
  ∀ s : State, Spec.AtBoundary s →
    (countMarks s.code s.codeLen.toNat (encode .eol) 6 s.bitpos = some 1 → s.cfgK = 0 →
      exec .eol s = .next (Spec.rowAt s (s.bitpos + 12))) ∧
    (countMarks s.code s.codeLen.toNat (encode .eol) 6 s.bitpos = some 6 → s.cfgK = 0 →
      exec .eol s = .next (Spec.finishAt s (s.bitpos + 72))) ∧
    (countMarks s.code s.codeLen.toNat (encode .eol) 2 s.bitpos = some 2 → s.cfgK < 0 →
      exec .eol s = .next (Spec.finishAt s (s.bitpos + 24))) ∧
    (0 < s.cfgK → ¬ Spec.RowIs1D s.cfgK s.rowidx →
      exec .eol0 s = .next (Spec.rowAt s (s.bitpos + 13))) ∧
    (countMarks s.code s.codeLen.toNat (encode .eol1) 6 s.bitpos = some 1 → 0 < s.cfgK →
      Spec.RowIs1D s.cfgK s.rowidx → exec .eol1 s = .next (Spec.rowAt s (s.bitpos + 13))) ∧
    (countMarks s.code s.codeLen.toNat (encode .eol1) 6 s.bitpos = some 6 → 0 < s.cfgK →
      exec .eol1 s = .next (Spec.finishAt s (s.bitpos + 78))) ∧
    (countMarks s.code s.codeLen.toNat (encode .eol1) 6 s.bitpos = some 1 → 0 < s.cfgK →
      ¬ Spec.RowIs1D s.cfgK s.rowidx → s.cfgFlags.getLsbD 0 = false →
      exec .eol1 s = .next (Spec.rowAt s s.bitpos))

/-- R480: the step of a decode call at a row boundary, for every scheme and every stream. -/
def Obligations.DecodeAtARowBoundary : Prop :=
  ∀ s : State, s.host = [] → Spec.AtBoundary s → Spec.Written s.code s.codeLen.toNat →
    ∃ t, step s = .next t ∧ Spec.BoundaryOutcome s t

/-- A row of a decode call begins as its coder says (the first lines of R403 with R402, and of R440): in white, at column
0; a 1D row with `RUNACC` cleared, a 2D row with `A0 = -1`. That this belongs to the step at the row boundary is the model's
choice (log 2). -/
def Obligations.ARowBeginsInWhite : Prop :=
  ∀ s t : State, s.host = [] → Spec.AtBoundary s → step s = .next t → t.fstate = .decodingRow →
    t = Spec.rowAt s t.bitpos

/-- R482: a decode call's completed row is stored as sentinels, becomes the reference line and is counted; the cursor is
aligned if `EncodedByteAlign` asks for it; the call ends at the row limit, else the next row boundary comes. -/
def Obligations.DecodeRowComplete : Prop :=
  ∀ (s : State) (w : Nat), s.host = [] → s.busy = true → s.dirl = .decode → s.fstate = .rowComplete →
    s.params.pixBytes = none → s.cfgColumns = w → w ≤ s.cur.length →
    ∃ t u : State, step s = .next t ∧
      u = { s with
        pix := t.pix, ref := t.ref, rowidx := s.rowidx + 1
        bitpos := if s.cfgFlags.getLsbD 1 = true then 8 * ((s.bitpos + 7) / 8) else s.bitpos } ∧
      t = (if 0 < s.cfgRows ∧ s.cfgFlags.getLsbD 2 = false ∧ s.cfgRows ≤ ((s.rowidx + 1 : Nat) : Int)
        then Spec.finishAt u u.bitpos else { u with fstate := .awaitingSync }) ∧
      (∀ c, c < w → t.pix.read (s.rowidx * w + c) = (s.cur[c]?).map (Spec.sentinel (s.cfgFlags.getLsbD 3))) ∧
      (∀ a, a < s.rowidx * w ∨ (s.rowidx + 1) * w ≤ a → t.pix.read a = s.pix.read a) ∧
      (∀ c, t.ref[c]? = if c < w then s.cur[c]? else s.ref[c]?)

/-- R487: an encode call's completed row becomes the reference line and is counted; the cursor is aligned if
`EncodedByteAlign` asks for it, over bits that are 0; the next row boundary comes. -/
def Obligations.EncodeRowComplete : Prop :=
  ∀ (s : State) (w : Nat), s.host = [] → Spec.Encoding .rowComplete s → s.cfgColumns = w → w ≤ s.cur.length →
    ∃ t : State, step s = .next t ∧
      t = { s with
        ref := t.ref, rowidx := s.rowidx + 1, fstate := .awaitingSync
        bitpos := if s.cfgFlags.getLsbD 1 = true then 8 * ((s.bitpos + 7) / 8) else s.bitpos } ∧
      (∀ c, t.ref[c]? = if c < w then s.cur[c]? else s.ref[c]?) ∧
      (Spec.CleanTail s.code s.bitpos →
        ∀ q, s.bitpos ≤ q → q < t.bitpos → Spec.bit t.code q = some false)

/-! ### Encode calls -/

/-- R488 and R489: when all rows are done an encode call appends the terminator of its scheme if `EndOfBlock` asks for
it, sets `CODE_LEN` to the bytes written and ends; `BITPOS` keeps the bit length, `PIX` and `PIX_ROWS` stay. -/
def Obligations.EncodeCallEnds : Prop :=
  ∀ (s : State) (is : List Instr), s.host = [] → Spec.Encoding .awaitingSync s → s.rowidx = s.nrows →
    s.params.codeBytes = none → Spec.CleanTail s.code s.bitpos →
    is = (if s.cfgFlags.getLsbD 2 = false then []
      else if s.cfgK < 0 then [.eol, .eol]
      else if s.cfgK = 0 then [.eol, .eol, .eol, .eol, .eol, .eol]
      else [.eol1, .eol1, .eol1, .eol1, .eol1, .eol1]) →
    ∃ t : State, step s = .next t ∧
      t = { s with
        code := t.code, bitpos := s.bitpos + Spec.bitCount is
        codeLen := ((s.bitpos + Spec.bitCount is + 7) / 8 : Nat)
        fstate := .terminated, busy := false, done := true } ∧
      Spec.Appended s.code s.bitpos (Spec.bitsOfAll is) t.code

/-- R485, its row branch: the prefix of the row is appended exactly when `EndOfLine` is set in a G3 call, and the row is
loaded from `PIX` as colours. -/
def Obligations.EncodeRowBegins : Prop :=
  ∀ (s : State) (w : Nat) (row : Line) (is : List Instr), s.host = [] → Spec.Encoding .awaitingSync s →
    s.rowidx ≠ s.nrows → s.params.codeBytes = none → Spec.CleanTail s.code s.bitpos →
    s.cfgColumns = w → row.length = w →
    (∀ c, c < w → s.pix.read (s.rowidx * w + c) = (row[c]?).map (Spec.sentinel (s.cfgFlags.getLsbD 3))) →
    is = (if s.cfgFlags.getLsbD 0 = false ∨ s.cfgK < 0 then []
      else if s.cfgK = 0 then [.eol]
      else if (s.rowidx : Int) % s.cfgK = 0 then [.eol1] else [.eol0]) →
    ∃ t : State, step s = .next t ∧
      t = { s with
        code := t.code, bitpos := s.bitpos + Spec.bitCount is, cur := t.cur, fstate := .decodingRow } ∧
      Spec.Appended s.code s.bitpos (Spec.bitsOfAll is) t.code ∧
      ∀ c, t.cur[c]? = if c < w then row[c]? else s.cur[c]?

/-- The bits of a 1D row (46_row_coder_1d.md R401 and its properties (a) to (c), which the spec marks as derived): the
chains of the line's alternating runs from white on, in which only the first run can be empty. The step of an encode call
at `DecodingRow` (R486) of a row that R474 makes 1D is this coder's, then `RowComplete`. -/
def Obligations.A1DRowIsCodedRunByRun : Prop :=
  ∀ (s : State) (w : Nat), 1 ≤ w → s.cfgColumns = w → w ≤ s.cur.length → Spec.CleanTail s.code s.bitpos →
    ∃ (t : State) (r : Nat) (rs : List Nat), s.encodeRow1D = some t ∧
      Spec.paint .white (r :: rs) = s.cur.take w ∧ (∀ x, x ∈ rs → 1 ≤ x) ∧
      t.bitpos = s.bitpos + Spec.bitCount (Spec.runsCodes .white (r :: rs)) ∧
      Spec.Appended s.code s.bitpos (Spec.bitsOfAll (Spec.runsCodes .white (r :: rs))) t.code ∧
      t = { s with
        code := t.code, bitpos := t.bitpos, col := w
        color := if (r :: rs).length % 2 = 0 then .white else .black } ∧
      (s.host = [] → Spec.Encoding .decodingRow s → Spec.RowIs1D s.cfgK s.rowidx → s.params.codeBytes = none →
        step s = .next { t with fstate := .rowComplete })

/-- A 1D row decodes to the line it codes (R126, R403; the spec's round trip R528 for one row): whatever stream holds the
bits `encodeRow1D` wrote, decoding it from there gives the line and ends where the encoder ended. -/
def Obligations.A1DRowDecodesToItsLine : Prop :=
  ∀ s t d : State, 1 ≤ s.cfgColumns → s.cfgColumns ≤ s.cur.length → Spec.CleanTail s.code s.bitpos →
    s.encodeRow1D = some t →
    d.host = [] → Spec.InRow d → d.hphase = .none → Spec.RowIs1D d.cfgK d.rowidx → d.color = .white →
    d.col = 0 → d.runacc = 0 → d.bitpos = s.bitpos → d.cfgColumns = s.cfgColumns →
    Spec.Written d.code d.codeLen.toNat → (t.bitpos : Int) ≤ 8 * d.codeLen →
    (∀ q, q < t.bitpos → s.bitpos ≤ q → Spec.bit d.code q = Spec.bit t.code q) →
    ∃ (n : Nat) (e : State), run n d = .next e ∧ e.fstate = .rowComplete ∧ e.bitpos = t.bitpos ∧ e.err = d.err ∧
      e.cur.take s.columns = s.cur.take s.columns

/-- A 2D row. Encode: the step of an encode call at `DecodingRow` (R486) of a row that R474 makes 2D is the coding steps of
R439 from `A0 = -1` and white on, as many as bring `A0` to `Columns`, then `RowComplete`; nothing but the stream, the cursor
and the coder's position changes. Decode: the row decodes to the line it codes (47_row_coder_2d.md R440, the inverse
property, which the spec marks as derived), over any reference line the two sides share. -/
def Obligations.A2DRowDecodesToItsLine : Prop :=
  (∀ s u : State, s.host = [] → Spec.Encoding .decodingRow s → ¬ Spec.RowIs1D s.cfgK s.rowidx →
    s.params.codeBytes = none → 1 ≤ s.cfgColumns → s.cfgColumns ≤ s.cur.length → s.cfgColumns ≤ s.ref.length →
    Spec.CleanTail s.code s.bitpos → u = { s with a0 := -1, color := .white, col := 0 } →
    ∃ (n : Nat) (t : State), Spec.codingSteps n u = some t ∧ t.a0 = s.cfgColumns ∧
      (∀ k, k < n → ∃ x, Spec.codingSteps k u = some x ∧ x.a0 < s.cfgColumns) ∧
      s.encodeRow2D = some t ∧ step s = .next { t with fstate := .rowComplete } ∧
      t = { s with
        code := t.code, bitpos := t.bitpos, a0 := s.cfgColumns, color := t.color, col := s.cfgColumns.toNat }) ∧
  ∀ s t d : State, 1 ≤ s.cfgColumns → s.cfgColumns ≤ s.cur.length → s.cfgColumns ≤ s.ref.length →
    Spec.CleanTail s.code s.bitpos → s.encodeRow2D = some t →
    d.host = [] → Spec.ReadsControl d → d.color = .white → d.a0 = -1 →
    d.col = 0 → d.bitpos = s.bitpos → d.cfgColumns = s.cfgColumns → d.ref = s.ref →
    Spec.Written d.code d.codeLen.toNat → (t.bitpos : Int) ≤ 8 * d.codeLen →
    (∀ q, q < t.bitpos → s.bitpos ≤ q → Spec.bit d.code q = Spec.bit t.code q) →
    ∃ (n : Nat) (e : State), run n d = .next e ∧ e.fstate = .rowComplete ∧ e.bitpos = t.bitpos ∧ e.err = d.err ∧
      e.cur.take s.columns = s.cur.take s.columns

/-- An admitted encode call takes `3 NROWS + 1` frame steps (49_host_commands.md R524, which the spec marks as derived;
R555), is busy until then, and ends without an error and with its input as it was. The step of an encode call is the
frame step (log 2). -/
def Obligations.EncodeCallCompletes : Prop :=
  ∀ s : State, s.host = [] → s.params = ⟨none, none, none⟩ → s.notAdmitted .encode = none →
    (∀ k, k < 3 * s.rowsToEncode + 1 → ∃ u : State, run k s.startEncode = .next u ∧ u.busy = true) ∧
    ∃ t : State, run (3 * s.rowsToEncode + 1) s.startEncode = .next t ∧
      t.busy = false ∧ t.done = true ∧ t.fstate = .terminated ∧ t.err = .none ∧
      t.codeLen = ((t.bitpos + 7) / 8 : Nat) ∧ t.pix = s.pix ∧ t.pixRows = s.pixRows

/-- An admitted decode call reaches `Terminated` (R524, which the spec marks as derived), here with the number of the
model's steps bounded by the length of the stream, and leaves the stream and the configuration as they were (R522). -/
def Obligations.DecodeCallTerminates : Prop :=
  ∀ s : State, s.host = [] → s.params = ⟨none, none, none⟩ → s.notAdmitted .decode = none →
    ∃ (n : Nat) (t : State), n ≤ 24 * s.codeLen.toNat + 3 ∧ run n s.startDecode = .next t ∧
      t.busy = false ∧ t.done = true ∧ t.fstate = .terminated ∧ t.code = s.code ∧ t.codeLen = s.codeLen ∧
      t.cfgK = s.cfgK ∧ t.cfgFlags = s.cfgFlags ∧ t.cfgColumns = s.cfgColumns ∧ t.cfgRows = s.cfgRows ∧
      t.cfgDamaged = s.cfgDamaged

/-! ### Rules about every step -/

/-- R479: the frame state moves only along the rule's table, in the direction of the call, and from `Idle` or `Terminated`
to `AwaitingSync` at a START, a write of `CTRL` with bit 0 set (R27); a reset (R580) leads to `Idle`. Inside a row the
state stays `DecodingRow`. That `CTRL` takes the low bits of any integer is the model's choice (log 8). -/
def Obligations.FrameStateTransitions : Prop :=
  ∀ s t : State, s.StatusConsistent → step s = .next t →
    t.fstate = s.fstate ∨ (s.busy = true ∧ (s.dirl, s.fstate, t.fstate) ∈ Spec.frameSteps) ∨
    ((s.fstate = .idle ∨ s.fstate = .terminated) ∧ t.fstate = .awaitingSync ∧
      ∃ v rest, s.host = .access (.writeReg 0 v) :: rest ∧ v % 2 = 1) ∨
    (t.fstate = .idle ∧ s.host.head? = some .reset)

/-- During a call the configuration and the call's input stay as they are (10_state.md R37; 20_memory.md R65, R78; R521,
R522): a decode call writes neither `CODE` nor `CODE_LEN`, an encode call neither `PIX` nor `PIX_ROWS`. -/
def Obligations.CallsKeepTheirInputs : Prop :=
  ∀ s t : State, s.busy = true → s.host.head? ≠ some .reset → step s = .next t →
    t.cfgK = s.cfgK ∧ t.cfgFlags = s.cfgFlags ∧ t.cfgDamaged = s.cfgDamaged ∧ t.cfgColumns = s.cfgColumns ∧
    t.cfgRows = s.cfgRows ∧ t.params = s.params ∧
    (s.dirl = .decode → t.code = s.code ∧ t.codeLen = s.codeLen) ∧
    (s.dirl = .encode → t.pix = s.pix ∧ t.pixRows = s.pixRows)

/-- "An encode call raises nothing" (60_exceptions.md R555): no step of an encode call changes `ERR`. -/
def Obligations.EncodeCallsRaiseNothing : Prop :=
  ∀ s t : State, s.busy = true → s.dirl = .encode → s.host.head? ≠ some .reset → step s = .next t →
    t.err = s.err

/-- During a call the cursor never moves back (10_state.md R24, which the spec marks as derived). -/
def Obligations.TheCursorNeverMovesBack : Prop :=
  ∀ s t : State, s.busy = true → s.host.head? ≠ some .reset → step s = .next t → s.bitpos ≤ t.bitpos

/-- A step runs the decoded codeword: with no move of the host left, where the bits at the cursor decode in the context of
the state to a codeword, the step is that codeword's meaning (log 1, log 2); at a row boundary the stream must not be
exhausted (R480). -/
def Obligations.AStepRunsTheDecodedCodeword : Prop :=
  ∀ (s : State) (c : Context) (f : Fetched) (i : Instr), s.host = [] → s.context = some c →
    (s.fstate = .awaitingSync → s.bitpos < 8 * s.codeBytes) →
    fetchNextCode s.code s.codeBytes s.bitpos = some f → decode c f.window f.avail = .instr i →
    step s = exec i s

/-! ### The host's side -/

/-- R526 with the register map of R26 to R36: while `BUSY = 1` the only admitted access is a read of `STATUS`, which changes
nothing of the block, and every other access is refused. While `BUSY = 0` a read of each of the ten registers gives what the
map says it holds (`CTRL` reads 0, R27) and changes nothing of the block; a write of each of registers 2 to 8 changes that
register alone; writes to `STATUS` and `BITPOS` are ignored; and single bytes of both memories below their capacity are
read and written. The machine holds the host's moves (log 1) and what its last read returned (log 15); that a register keeps
any integer whole, whatever `REGW` is, and that `CFG_FLAGS` takes the low four bits of any integer is the model's choice
(log 8). -/
def Obligations.HostAccessRules : Prop :=
  ∀ (s : State) (rest : List HostMove),
    (∀ a, s.busy = true → s.host = .access a :: rest → a ≠ .readReg 1 → step s = .refused .accessWhileBusy) ∧
    (s.busy = true → s.host = .access (.readReg 1) :: rest →
      step s = .next { s with host := rest, hostData := s.statusWord }) ∧
    (∀ (n : Nat) (v : Int), s.busy = false → s.host = .access (.readReg n) :: rest →
      (n, v) ∈ [(0, 0), (1, (s.statusWord : Int)), (2, s.cfgK), (3, (s.cfgFlags.toNat : Int)), (4, s.cfgDamaged),
        (5, s.cfgColumns), (6, s.cfgRows), (7, s.codeLen), (8, s.pixRows), (9, (s.bitpos : Int))] →
      step s = .next { s with host := rest, hostData := v }) ∧
    (∀ (n : Nat) (v : Int) (t : State), s.busy = false → s.host = .access (.writeReg n v) :: rest →
      (n, t) ∈ [(1, s), (2, { s with cfgK := v }), (3, { s with cfgFlags := BitVec.ofNat 4 (v % 16).toNat }),
        (4, { s with cfgDamaged := v }), (5, { s with cfgColumns := v }), (6, { s with cfgRows := v }),
        (7, { s with codeLen := v }), (8, { s with pixRows := v }), (9, s)] →
      step s = .next { t with host := rest }) ∧
    (∀ (o : Nat) (b : Byte), s.busy = false → (∀ k, s.params.codeBytes = some k → o < k) →
      s.host = .access (.writeMem .code o b) :: rest →
      step s = .next { s with host := rest, code := s.code.write o b }) ∧
    (∀ (o : Nat) (b : Byte), s.busy = false → (∀ k, s.params.pixBytes = some k → o < k) →
      s.host = .access (.writeMem .pix o b) :: rest →
      step s = .next { s with host := rest, pix := s.pix.write o b }) ∧
    (∀ (o : Nat) (b : Byte), s.busy = false → (∀ k, s.params.codeBytes = some k → o < k) →
      s.code.read o = some b → s.host = .access (.readMem .code o) :: rest →
      step s = .next { s with host := rest, hostData := b.toNat }) ∧
    (∀ (o : Nat) (b : Byte), s.busy = false → (∀ k, s.params.pixBytes = some k → o < k) →
      s.pix.read o = some b → s.host = .access (.readMem .pix o) :: rest →
      step s = .next { s with host := rest, hostData := b.toNat })

/-- A register that the host may write holds what it wrote (10_state.md R26, R29 to R35): written and read in the next two
moves; `CFG_FLAGS` keeps its four bits only; every other register reads as before, and no other state changes. That a
value is kept whole whatever `REGW` is, and that `CFG_FLAGS` takes the low four bits of any integer, is the model's choice
(log 8), as is the register that holds what the read returned (log 15). -/
def Obligations.WrittenRegistersReadBack : Prop :=
  ∀ (s : State) (n : Nat) (v : Int) (rest : List HostMove), s.busy = false → 2 ≤ n → n ≤ 8 →
    s.host = .access (.writeReg n v) :: .access (.readReg n) :: rest →
    ∃ t : State, run 2 s = .next t ∧ t.hostData = (if n = 3 then v % 16 else v) ∧
      (∀ k, k ≠ n → t.readReg k = s.readReg k) ∧
      t = { s with
        host := rest, hostData := t.hostData, cfgK := t.cfgK, cfgFlags := t.cfgFlags, cfgDamaged := t.cfgDamaged
        cfgColumns := t.cfgColumns, cfgRows := t.cfgRows, codeLen := t.codeLen, pixRows := t.pixRows }

/-- R28: the fields of `STATUS` stand in the bits the rule gives them, with the codes of R40 and R541; every other bit
reads 0. -/
def Obligations.StatusWordFields : Prop :=
  ∀ (s : State) (f e : Nat),
    (s.fstate, f) ∈ [(FState.idle, 0), (.awaitingSync, 1), (.decodingRow, 2), (.rowComplete, 3), (.terminated, 4)] →
    (s.err, e) ∈ [(ErrKind.none, 0), (.invalidControlCode, 1), (.invalidRunCode, 2), (.missingEOL, 3),
      (.corruptTerminatorRTC, 4), (.corruptTerminatorEOFB, 5), (.bufferExhausted, 6), (.runOutOfRange, 7)] →
    s.statusWord % 2 = (if s.busy then 1 else 0) ∧ s.statusWord / 2 % 2 = (if s.done then 1 else 0) ∧
    s.statusWord / 4 % 2 = (if s.dirl = .decode then 1 else 0) ∧ s.statusWord / 8 % 2 = 0 ∧
    s.statusWord / 16 % 8 = f ∧ s.statusWord / 128 % 2 = 0 ∧ s.statusWord / 256 = e

/-- A write of `CTRL` with `START = 0` does nothing, whatever its other bits (10_state.md R27). Admission of a START
(49_host_commands.md R523) of a block with the default parameters of R7, where (e), (g) and (h) hold of themselves: a START
is a step exactly when (a), (b), (c) and (d) or (f) hold, and is refused otherwise. That `CTRL` takes the low bits of any
integer is the model's choice (log 8). -/
def Obligations.StartAdmission : Prop :=
  (∀ (s : State) (v : Int) (rest : List HostMove), s.busy = false → s.host = .access (.writeReg 0 v) :: rest →
    v % 2 = 0 → step s = .next { s with host := rest }) ∧
  ∀ (s : State) (v : Int) (rest : List HostMove), s.params = ⟨none, none, none⟩ →
    s.host = .access (.writeReg 0 v) :: rest →
    (v % 4 = 1 →
      ((∃ t, step s = .next t) ↔ s.busy = false ∧ 1 ≤ s.cfgColumns ∧ 0 ≤ s.cfgRows ∧ 0 ≤ s.pixRows ∧
        ∀ a : Nat, (a : Int) < s.pixRows * s.cfgColumns →
          s.pix.read a = some 0x00#8 ∨ s.pix.read a = some 0x01#8)) ∧
    (v % 4 = 3 →
      ((∃ t, step s = .next t) ↔ s.busy = false ∧ 1 ≤ s.cfgColumns ∧ 0 ≤ s.cfgRows ∧ 0 ≤ s.codeLen ∧
        Spec.Written s.code s.codeLen.toNat)) ∧
    ((¬ ∃ t, step s = .next t) → ∃ r, step s = .refused r)

/-- R521: an admitted START with `DIR = 0`, a write of `CTRL` with bit 0 set and bit 1 clear (R27). That `CTRL` takes the
low bits of any integer is the model's choice (log 8). -/
def Obligations.StartEncodeState : Prop :=
  ∀ (s : State) (v : Int) (rest : List HostMove), s.host = .access (.writeReg 0 v) :: rest → v % 4 = 1 →
    s.notAdmitted .encode = none →
    ∃ t : State, step s = .next t ∧
      t = { s with
        host := rest, dirl := .encode, err := .none, done := false, busy := true, bitpos := 0, rowidx := 0, runacc := 0
        nrows := (if 0 < s.cfgRows then min s.cfgRows s.pixRows else s.pixRows).toNat
        fstate := .awaitingSync, ref := t.ref, hphase := t.hphase } ∧
      ∀ c : Nat, t.ref[c]? = if s.cfgK < 0 ∧ (c : Int) < s.cfgColumns then some .white else s.ref[c]?

/-- R522: an admitted START with `DIR = 1`, a write of `CTRL` with bits 0 and 1 set (R27). That `CTRL` takes the low bits
of any integer is the model's choice (log 8). -/
def Obligations.StartDecodeState : Prop :=
  ∀ (s : State) (v : Int) (rest : List HostMove), s.host = .access (.writeReg 0 v) :: rest → v % 4 = 3 →
    s.notAdmitted .decode = none →
    ∃ t : State, step s = .next t ∧
      t = { s with
        host := rest, dirl := .decode, err := .none, done := false, busy := true, bitpos := 0, rowidx := 0, runacc := 0
        fstate := .awaitingSync, ref := t.ref, hphase := t.hphase } ∧
      ∀ c : Nat, t.ref[c]? = if s.cfgK < 0 ∧ (c : Int) < s.cfgColumns then some .white else s.ref[c]?

/-- "The engine does nothing until the host writes START" (R43, R580): with `BUSY = 0` and no move of the host the step
changes nothing (the machine holds the host's moves, log 1). -/
def Obligations.AnIdleEngineDoesNothing : Prop :=
  ∀ s : State, s.busy = false → s.host = [] → step s = .next s

/-- R43: what reset leaves, for every register whose value the rule gives; in the state after reset and after the reset
of any state, a call in progress included (R580). -/
def Obligations.ResetLeavesTheSpecsValues : Prop :=
  Spec.ResetValues State.reset ∧
  ∀ (s : State) (rest : List HostMove), s.host = .reset :: rest →
    ∃ t, step s = .next t ∧ Spec.ResetValues t

/-- R66: the sentinels by `BlackIs1`, the inverse conversion, and no colour for any other byte. -/
def Obligations.SentinelConversion : Prop :=
  toByte true .black = 0x01#8 ∧ toByte true .white = 0x00#8 ∧
  toByte false .black = 0x00#8 ∧ toByte false .white = 0x01#8 ∧
  (∀ (b : Bool) (c : Colour), toColour b (toByte b c) = some c) ∧
  ∀ (b : Bool) (v : Byte), v ≠ 0x00#8 → v ≠ 0x01#8 → toColour b v = none

/-! ### Invariants -/

/-- The state after reset meets the invariant of an admitted call (10_state.md R44, which the spec marks as derived). -/
def Obligations.ResetIsSound : Prop := State.reset.Sound

/-- Every step keeps it, the host's moves and a START included (R44). The invariant speaks of the model's own fields
`hphase` (log 3) too. -/
def Obligations.EveryStepKeepsSoundness : Prop :=
  ∀ s t : State, s.Sound → step s = .next t → t.Sound

/-- From a state that meets it the engine always has a step: no fault and no refusal can stop an admitted call (R45,
R524), here with the default unbounded memories of R7. -/
def Obligations.ASoundEngineNeverStops : Prop :=
  ∀ s : State, s.Sound → s.host = [] → s.params = ⟨none, none, none⟩ → ∃ t, step s = .next t

/-- Every step from any state keeps both memories in canonical form (the form is the model's choice, log 6). -/
def Obligations.EveryStepKeepsMemoriesCanonical : Prop :=
  ∀ s t : State, s.MemoriesCanonical → step s = .next t → t.MemoriesCanonical
end

