-- ==== Sys2Proof/Laws/Memory.lean ====
section
/-! SUPPORT. The byte memories: what a read gives after a write, and that every operation keeps the canonical form. -/

namespace Sys2Proof.Machine

/-! ### Reading after writing -/

@[simp] theorem Memory.read_nil (a : Nat) : Memory.read [] a = none := rfl

theorem Memory.read_cons (x : Nat) (v : Byte) (m : Memory) (a : Nat) :
    Memory.read ((x, v) :: m) a = if x = a then some v else Memory.read m a := rfl

/-- A read after a write: the written byte at its offset, what was there anywhere else. -/
theorem Memory.read_write (m : Memory) (a x : Nat) (b : Byte) :
    (m.write a b).read x = if x = a then some b else m.read x := by
  induction m with
  | nil => simp [Memory.write, Memory.read, eq_comm]
  | cons c m ih =>
    obtain ⟨y, v⟩ := c
    simp only [Memory.write]
    split
    · simp only [Memory.read, eq_comm]
    · split
      · rename_i h
        subst h
        by_cases hx : x = a
        · simp [Memory.read, hx]
        · simp [Memory.read, hx, Ne.symm hx]
      · simp only [Memory.read, ih]
        by_cases h : y = x
        · subst h; simp_all [eq_comm]
        · simp [h]

@[simp] theorem Memory.read_write_same (m : Memory) (a : Nat) (b : Byte) : (m.write a b).read a = some b := by
  simp [Memory.read_write]

theorem Memory.read_write_of_ne (m : Memory) (a x : Nat) (b : Byte) (h : x ≠ a) :
    (m.write a b).read x = m.read x := by
  simp [Memory.read_write, h]

/-- A read after a row of bytes is stored. -/
theorem Memory.read_writeBlock (bs : List Byte) (m : Memory) (a x : Nat) :
    (Memory.writeBlock m a bs).read x =
      if a ≤ x ∧ x < a + bs.length then bs[x - a]? else m.read x := by
  induction bs generalizing m a with
  | nil =>
    simp only [Memory.writeBlock, List.length_nil, Nat.add_zero]
    rw [if_neg (by omega)]
  | cons b bs ih =>
    simp only [Memory.writeBlock, ih, Memory.read_write, List.length_cons]
    by_cases h : x = a
    · subst h; simp
    · by_cases h2 : a + 1 ≤ x ∧ x < a + 1 + bs.length
      · have h3 : x - a = (x - (a + 1)) + 1 := by omega
        have h4 : a ≤ x ∧ x < a + (bs.length + 1) := by omega
        simp [h2, h3, h4]
      · have h4 : ¬ (a ≤ x ∧ x < a + (bs.length + 1)) := by omega
        rw [if_neg h2, if_neg h4, if_neg h]

/-- A row of bytes that has been written is read byte by byte. -/
theorem Memory.readBlock_eq_some {m : Memory} {a n : Nat} {bs : List Byte} (h : m.readBlock a n = some bs) :
    bs.length = n ∧ ∀ k, k < n → m.read (a + k) = bs[k]? := by
  induction n generalizing a bs with
  | zero => simp only [Memory.readBlock, Option.some.injEq] at h; subst h; simp
  | succ n ih =>
    simp only [Memory.readBlock] at h
    split at h
    · rename_i b cs hb hcs
      cases h
      obtain ⟨hl, hr⟩ := ih hcs
      refine ⟨by simp [hl], fun k hk => ?_⟩
      cases k with
      | zero => simpa using hb
      | succ k => rw [show a + (k + 1) = a + 1 + k by omega, hr k (by omega)]; simp
    · cases h

/-- A row of bytes all of which have been written can be loaded. -/
theorem Memory.readBlock_isSome {m : Memory} {a n : Nat} (h : ∀ k, k < n → (m.read (a + k)).isSome) :
    (m.readBlock a n).isSome := by
  induction n generalizing a with
  | zero => rfl
  | succ n ih =>
    have h0 := h 0 (by omega)
    have h1 := ih (a := a + 1) fun k hk => by
      have := h (k + 1) (by omega)
      rwa [show a + (k + 1) = a + 1 + k by omega] at this
    obtain ⟨b, hb⟩ := Option.isSome_iff_exists.mp h0
    obtain ⟨bs, hbs⟩ := Option.isSome_iff_exists.mp h1
    simp only [Nat.add_zero] at hb
    simp [Memory.readBlock, hb, hbs]

theorem Memory.writtenBelow_iff (m : Memory) (n : Nat) :
    m.writtenBelow n = true ↔ ∀ a, a < n → (m.read a).isSome = true := by
  simp [Memory.writtenBelow, List.all_eq_true]

/-! ### The canonical form -/

theorem Memory.wf_iff (m : Memory) : m.wf = true ↔ m.Pairwise fun x y => x.1 < y.1 := by
  induction m with
  | nil => simp [Memory.wf]
  | cons c m ih =>
    obtain ⟨a, v⟩ := c
    cases m with
    | nil => simp [Memory.wf]
    | cons d m =>
      obtain ⟨b, w⟩ := d
      simp only [Memory.wf, Bool.and_eq_true, decide_eq_true_eq, ih, List.pairwise_cons, List.mem_cons]
      constructor
      · rintro ⟨hab, hm, hp⟩
        exact ⟨fun x hx => hx.elim (fun e => by subst e; exact hab) fun hx => hab.trans (hm x hx), hm, hp⟩
      · rintro ⟨h1, h2, h3⟩
        exact ⟨h1 (b, w) (.inl rfl), h2, h3⟩

/-- The offsets a write leaves listed. -/
theorem Memory.mem_write {m : Memory} {a : Nat} {b : Byte} {c : Host.Cell} (h : c ∈ m.write a b) :
    c.1 = a ∨ c ∈ m := by
  induction m with
  | nil => simp [Memory.write] at h; simp [h]
  | cons d m ih =>
    obtain ⟨x, v⟩ := d
    simp only [Memory.write] at h
    split at h
    · simp only [List.mem_cons] at h
      obtain h | h | h := h
      · simp [h]
      · simp [h]
      · simp [h]
    · split at h
      · simp only [List.mem_cons] at h
        obtain h | h := h
        · simp [h]
        · simp [h]
      · simp only [List.mem_cons] at h
        obtain h | h := h
        · simp [h]
        · obtain h | h := ih h
          · simp [h]
          · simp [h]

/-- A write keeps the canonical form. -/
theorem Memory.wf_write {m : Memory} (h : m.wf = true) (a : Nat) (b : Byte) : (m.write a b).wf = true := by
  rw [Memory.wf_iff] at h ⊢
  induction m with
  | nil => simp [Memory.write]
  | cons d m ih =>
    obtain ⟨x, v⟩ := d
    simp only [List.pairwise_cons] at h
    simp only [Memory.write]
    split
    · rename_i hlt
      simp only [List.pairwise_cons, List.mem_cons]
      exact ⟨fun c hc => hc.elim (fun e => by subst e; exact hlt) fun hc => hlt.trans (h.1 c hc), h⟩
    · split
      · rename_i he; subst he; simpa [List.pairwise_cons] using h
      · rename_i h1 h2
        simp only [List.pairwise_cons]
        refine ⟨fun c hc => ?_, ih h.2⟩
        obtain hc | hc := Memory.mem_write hc
        · simp only [hc]; omega
        · exact h.1 c hc

theorem Memory.wf_writeBlock {m : Memory} (h : m.wf = true) (a : Nat) (bs : List Byte) :
    (Memory.writeBlock m a bs).wf = true := by
  induction bs generalizing m a with
  | nil => exact h
  | cons b bs ih => exact ih (Memory.wf_write h a b) (a + 1)

/-- Changing bytes in place, as the error stop does to `PIX`, keeps the canonical form. -/
theorem Memory.wf_map {m : Memory} (h : m.wf = true) (f : Host.Cell → Byte) :
    Memory.wf (m.map fun c => (c.1, f c)) = true := by
  rw [Memory.wf_iff] at h ⊢
  exact List.pairwise_map.mpr h

theorem addBit_wf {m m' : Memory} {q : Nat} {b : Bool} (h : m.wf = true) (e : addBit m q b = some m') :
    m'.wf = true := by
  simp only [addBit] at e
  have h0 : (if q % 8 = 0 then m.write (q / 8) 0 else m).wf = true := by
    split
    · exact Memory.wf_write h _ _
    · exact h
  split at e
  · obtain ⟨v, -, rfl⟩ := Option.map_eq_some_iff.mp e
    exact Memory.wf_write h0 _ _
  · cases e; exact h0

theorem addBits_wf {w : Word} {k i q : Nat} {m m' : Memory} (h : m.wf = true) (e : addBits w k i q m = some m') :
    m'.wf = true := by
  induction k generalizing i q m with
  | zero => simp only [addBits, Option.some.injEq] at e; subst e; exact h
  | succ k ih =>
    simp only [addBits] at e
    split at e
    · cases e
    · rename_i m1 h1
      exact ih (addBit_wf h h1) e

/-- `add_code` keeps the canonical form. -/
theorem addCode_wf {m m' : Memory} {p : Nat} {k : Code} (h : m.wf = true) (e : addCode m p k = some m') :
    m'.wf = true := addBits_wf h e

theorem pokeBit_wf {m : Memory} (h : m.wf = true) (q : Nat) (b : Bool) : (pokeBit m q b).wf = true :=
  Memory.wf_write h _ _

theorem pokeWindow_wf {m : Memory} (h : m.wf = true) (w : Word) (k q : Nat) : (pokeWindow w k q m).wf = true := by
  induction k generalizing q m with
  | zero => exact h
  | succ k ih => exact ih (pokeBit_wf h _ _) _

/-- The memories after reset are in canonical form. -/
theorem reset_memories_wf : State.reset.code.wf = true ∧ State.reset.pix.wf = true := ⟨rfl, rfl⟩

theorem State.writeMem_wf (s : State) (m : Space) (a : Nat) (b : Byte)
    (h : s.code.wf = true ∧ s.pix.wf = true) :
    (s.writeMem m a b).code.wf = true ∧ (s.writeMem m a b).pix.wf = true := by
  cases m
  · exact ⟨Memory.wf_write h.1 _ _, h.2⟩
  · exact ⟨h.1, Memory.wf_write h.2 _ _⟩

/-! ### Bits -/

/-- A bit of a byte that has been written. -/
theorem bitAt_eq_some {m : Memory} {q : Nat} {b : Bool} :
    bitAt m q = some b ↔ ∃ v, m.read (q / 8) = some v ∧ v.getLsbD (7 - q % 8) = b := by
  simp [bitAt, Option.map_eq_some_iff]

theorem bitAt_isSome (m : Memory) (q : Nat) : (bitAt m q).isSome = (m.read (q / 8)).isSome := by
  simp [bitAt]

/-- What one turn of `add_code` does to the bytes: only the byte of `q` is written, and it can fail only when that byte
has to be merged and is unwritten. -/
theorem addBit_read {m m' : Memory} {q : Nat} {b : Bool} (h : addBit m q b = some m') (a : Nat) (ha : a ≠ q / 8) :
    m'.read a = m.read a := by
  simp only [addBit] at h
  have h0 : (if q % 8 = 0 then m.write (q / 8) 0 else m).read a = m.read a := by
    split
    · exact Memory.read_write_of_ne _ _ _ _ ha
    · rfl
  split at h
  · obtain ⟨v, -, rfl⟩ := Option.map_eq_some_iff.mp h
    rw [Memory.read_write_of_ne _ _ _ _ ha, h0]
  · cases h; exact h0

theorem addBit_isSome (m : Memory) (q : Nat) (b : Bool) (h : q % 8 = 0 ∨ (m.read (q / 8)).isSome = true) :
    (addBit m q b).isSome = true := by
  simp only [addBit]
  by_cases hq : q % 8 = 0
  · cases b <;> simp [hq]
  · cases b <;> simp_all

end Sys2Proof.Machine
end

