-- ==== Sys2Proof/Laws/State.lean ====
section
/-! SUPPORT. What each named update of the state does to each field, one lemma a field, so that no proof unfolds a record
update. -/

namespace Sys2Proof.Machine

/-! ### `State.advance` -/

@[simp] theorem State.advance_busy (s : State) (n : Nat) : (s.advance n).busy = s.busy := rfl
@[simp] theorem State.advance_done (s : State) (n : Nat) : (s.advance n).done = s.done := rfl
@[simp] theorem State.advance_dirl (s : State) (n : Nat) : (s.advance n).dirl = s.dirl := rfl
@[simp] theorem State.advance_fstate (s : State) (n : Nat) : (s.advance n).fstate = s.fstate := rfl
@[simp] theorem State.advance_err (s : State) (n : Nat) : (s.advance n).err = s.err := rfl
@[simp] theorem State.advance_cfgK (s : State) (n : Nat) : (s.advance n).cfgK = s.cfgK := rfl
@[simp] theorem State.advance_cfgFlags (s : State) (n : Nat) : (s.advance n).cfgFlags = s.cfgFlags := rfl
@[simp] theorem State.advance_cfgDamaged (s : State) (n : Nat) : (s.advance n).cfgDamaged = s.cfgDamaged := rfl
@[simp] theorem State.advance_cfgColumns (s : State) (n : Nat) : (s.advance n).cfgColumns = s.cfgColumns := rfl
@[simp] theorem State.advance_cfgRows (s : State) (n : Nat) : (s.advance n).cfgRows = s.cfgRows := rfl
@[simp] theorem State.advance_codeLen (s : State) (n : Nat) : (s.advance n).codeLen = s.codeLen := rfl
@[simp] theorem State.advance_pixRows (s : State) (n : Nat) : (s.advance n).pixRows = s.pixRows := rfl
@[simp] theorem State.advance_bitpos (s : State) (n : Nat) : (s.advance n).bitpos = s.bitpos + n := rfl
@[simp] theorem State.advance_color (s : State) (n : Nat) : (s.advance n).color = s.color := rfl
@[simp] theorem State.advance_a0 (s : State) (n : Nat) : (s.advance n).a0 = s.a0 := rfl
@[simp] theorem State.advance_col (s : State) (n : Nat) : (s.advance n).col = s.col := rfl
@[simp] theorem State.advance_runacc (s : State) (n : Nat) : (s.advance n).runacc = s.runacc := rfl
@[simp] theorem State.advance_rowidx (s : State) (n : Nat) : (s.advance n).rowidx = s.rowidx := rfl
@[simp] theorem State.advance_nrows (s : State) (n : Nat) : (s.advance n).nrows = s.nrows := rfl
@[simp] theorem State.advance_cur (s : State) (n : Nat) : (s.advance n).cur = s.cur := rfl
@[simp] theorem State.advance_ref (s : State) (n : Nat) : (s.advance n).ref = s.ref := rfl
@[simp] theorem State.advance_code (s : State) (n : Nat) : (s.advance n).code = s.code := rfl
@[simp] theorem State.advance_pix (s : State) (n : Nat) : (s.advance n).pix = s.pix := rfl
@[simp] theorem State.advance_hphase (s : State) (n : Nat) : (s.advance n).hphase = s.hphase := rfl
@[simp] theorem State.advance_host (s : State) (n : Nat) : (s.advance n).host = s.host := rfl
@[simp] theorem State.advance_hostData (s : State) (n : Nat) : (s.advance n).hostData = s.hostData := rfl
@[simp] theorem State.advance_params (s : State) (n : Nat) : (s.advance n).params = s.params := rfl
@[simp] theorem State.advance_freeCount (s : State) (n : Nat) : (s.advance n).freeCount = s.freeCount := rfl
@[simp] theorem State.advance_columns (s : State) (n : Nat) : (s.advance n).columns = s.columns := rfl
@[simp] theorem State.advance_rows (s : State) (n : Nat) : (s.advance n).rows = s.rows := rfl
@[simp] theorem State.advance_codeBytes (s : State) (n : Nat) : (s.advance n).codeBytes = s.codeBytes := rfl
@[simp] theorem State.advance_suppliedRows (s : State) (n : Nat) : (s.advance n).suppliedRows = s.suppliedRows := rfl
@[simp] theorem State.advance_endOfLine (s : State) (n : Nat) : (s.advance n).endOfLine = s.endOfLine := rfl
@[simp] theorem State.advance_encodedByteAlign (s : State) (n : Nat) : (s.advance n).encodedByteAlign = s.encodedByteAlign := rfl
@[simp] theorem State.advance_endOfBlock (s : State) (n : Nat) : (s.advance n).endOfBlock = s.endOfBlock := rfl
@[simp] theorem State.advance_blackIs1 (s : State) (n : Nat) : (s.advance n).blackIs1 = s.blackIs1 := rfl

/-! ### `State.raise` -/

@[simp] theorem State.raise_busy (s : State) (e : ErrKind) (p : Nat) : (s.raise e p).busy = false := rfl
@[simp] theorem State.raise_done (s : State) (e : ErrKind) (p : Nat) : (s.raise e p).done = true := rfl
@[simp] theorem State.raise_dirl (s : State) (e : ErrKind) (p : Nat) : (s.raise e p).dirl = s.dirl := rfl
@[simp] theorem State.raise_fstate (s : State) (e : ErrKind) (p : Nat) : (s.raise e p).fstate = .terminated := rfl
@[simp] theorem State.raise_err (s : State) (e : ErrKind) (p : Nat) : (s.raise e p).err = e := rfl
@[simp] theorem State.raise_cfgK (s : State) (e : ErrKind) (p : Nat) : (s.raise e p).cfgK = s.cfgK := rfl
@[simp] theorem State.raise_cfgFlags (s : State) (e : ErrKind) (p : Nat) : (s.raise e p).cfgFlags = s.cfgFlags := rfl
@[simp] theorem State.raise_cfgDamaged (s : State) (e : ErrKind) (p : Nat) :
    (s.raise e p).cfgDamaged = s.cfgDamaged := rfl
@[simp] theorem State.raise_cfgColumns (s : State) (e : ErrKind) (p : Nat) :
    (s.raise e p).cfgColumns = s.cfgColumns := rfl
@[simp] theorem State.raise_cfgRows (s : State) (e : ErrKind) (p : Nat) : (s.raise e p).cfgRows = s.cfgRows := rfl
@[simp] theorem State.raise_codeLen (s : State) (e : ErrKind) (p : Nat) : (s.raise e p).codeLen = s.codeLen := rfl
@[simp] theorem State.raise_pixRows (s : State) (e : ErrKind) (p : Nat) : (s.raise e p).pixRows = 0 := rfl
@[simp] theorem State.raise_bitpos (s : State) (e : ErrKind) (p : Nat) : (s.raise e p).bitpos = p := rfl
@[simp] theorem State.raise_color (s : State) (e : ErrKind) (p : Nat) : (s.raise e p).color = s.color := rfl
@[simp] theorem State.raise_a0 (s : State) (e : ErrKind) (p : Nat) : (s.raise e p).a0 = s.a0 := rfl
@[simp] theorem State.raise_col (s : State) (e : ErrKind) (p : Nat) : (s.raise e p).col = s.col := rfl
@[simp] theorem State.raise_runacc (s : State) (e : ErrKind) (p : Nat) : (s.raise e p).runacc = s.runacc := rfl
@[simp] theorem State.raise_rowidx (s : State) (e : ErrKind) (p : Nat) : (s.raise e p).rowidx = s.rowidx := rfl
@[simp] theorem State.raise_nrows (s : State) (e : ErrKind) (p : Nat) : (s.raise e p).nrows = s.nrows := rfl
@[simp] theorem State.raise_cur (s : State) (e : ErrKind) (p : Nat) : (s.raise e p).cur = s.cur := rfl
@[simp] theorem State.raise_ref (s : State) (e : ErrKind) (p : Nat) : (s.raise e p).ref = s.ref := rfl
@[simp] theorem State.raise_code (s : State) (e : ErrKind) (p : Nat) : (s.raise e p).code = s.code := rfl
@[simp] theorem State.raise_pix (s : State) (e : ErrKind) (p : Nat) :
    (s.raise e p).pix = s.pix.map fun cell => (cell.1, Config.freePixByte s.freeCount cell.1) := rfl
@[simp] theorem State.raise_hphase (s : State) (e : ErrKind) (p : Nat) : (s.raise e p).hphase = .none := rfl
@[simp] theorem State.raise_host (s : State) (e : ErrKind) (p : Nat) : (s.raise e p).host = s.host := rfl
@[simp] theorem State.raise_hostData (s : State) (e : ErrKind) (p : Nat) : (s.raise e p).hostData = s.hostData := rfl
@[simp] theorem State.raise_params (s : State) (e : ErrKind) (p : Nat) : (s.raise e p).params = s.params := rfl
@[simp] theorem State.raise_freeCount (s : State) (e : ErrKind) (p : Nat) :
    (s.raise e p).freeCount = s.freeCount + 1 := rfl
@[simp] theorem State.raise_columns (s : State) (e : ErrKind) (p : Nat) : (s.raise e p).columns = s.columns := rfl
@[simp] theorem State.raise_rows (s : State) (e : ErrKind) (p : Nat) : (s.raise e p).rows = s.rows := rfl
@[simp] theorem State.raise_codeBytes (s : State) (e : ErrKind) (p : Nat) : (s.raise e p).codeBytes = s.codeBytes := rfl
@[simp] theorem State.raise_endOfLine (s : State) (e : ErrKind) (p : Nat) : (s.raise e p).endOfLine = s.endOfLine := rfl
@[simp] theorem State.raise_encodedByteAlign (s : State) (e : ErrKind) (p : Nat) : (s.raise e p).encodedByteAlign = s.encodedByteAlign := rfl
@[simp] theorem State.raise_endOfBlock (s : State) (e : ErrKind) (p : Nat) : (s.raise e p).endOfBlock = s.endOfBlock := rfl
@[simp] theorem State.raise_blackIs1 (s : State) (e : ErrKind) (p : Nat) : (s.raise e p).blackIs1 = s.blackIs1 := rfl

/-! ### `State.finish` -/

@[simp] theorem State.finish_busy (s : State) : s.finish.busy = false := rfl
@[simp] theorem State.finish_done (s : State) : s.finish.done = true := rfl
@[simp] theorem State.finish_dirl (s : State) : s.finish.dirl = s.dirl := rfl
@[simp] theorem State.finish_fstate (s : State) : s.finish.fstate = .terminated := rfl
@[simp] theorem State.finish_err (s : State) : s.finish.err = s.err := rfl
@[simp] theorem State.finish_cfgK (s : State) : s.finish.cfgK = s.cfgK := rfl
@[simp] theorem State.finish_cfgFlags (s : State) : s.finish.cfgFlags = s.cfgFlags := rfl
@[simp] theorem State.finish_cfgDamaged (s : State) : s.finish.cfgDamaged = s.cfgDamaged := rfl
@[simp] theorem State.finish_cfgColumns (s : State) : s.finish.cfgColumns = s.cfgColumns := rfl
@[simp] theorem State.finish_cfgRows (s : State) : s.finish.cfgRows = s.cfgRows := rfl
@[simp] theorem State.finish_codeLen (s : State) : s.finish.codeLen = s.codeLen := rfl
@[simp] theorem State.finish_pixRows (s : State) : s.finish.pixRows = (s.rowidx : Int) := rfl
@[simp] theorem State.finish_bitpos (s : State) : s.finish.bitpos = s.bitpos := rfl
@[simp] theorem State.finish_color (s : State) : s.finish.color = s.color := rfl
@[simp] theorem State.finish_a0 (s : State) : s.finish.a0 = s.a0 := rfl
@[simp] theorem State.finish_col (s : State) : s.finish.col = s.col := rfl
@[simp] theorem State.finish_runacc (s : State) : s.finish.runacc = s.runacc := rfl
@[simp] theorem State.finish_rowidx (s : State) : s.finish.rowidx = s.rowidx := rfl
@[simp] theorem State.finish_nrows (s : State) : s.finish.nrows = s.nrows := rfl
@[simp] theorem State.finish_cur (s : State) : s.finish.cur = s.cur := rfl
@[simp] theorem State.finish_ref (s : State) : s.finish.ref = s.ref := rfl
@[simp] theorem State.finish_code (s : State) : s.finish.code = s.code := rfl
@[simp] theorem State.finish_pix (s : State) : s.finish.pix = s.pix := rfl
@[simp] theorem State.finish_hphase (s : State) : s.finish.hphase = s.hphase := rfl
@[simp] theorem State.finish_host (s : State) : s.finish.host = s.host := rfl
@[simp] theorem State.finish_hostData (s : State) : s.finish.hostData = s.hostData := rfl
@[simp] theorem State.finish_params (s : State) : s.finish.params = s.params := rfl
@[simp] theorem State.finish_freeCount (s : State) : s.finish.freeCount = s.freeCount := rfl
@[simp] theorem State.finish_columns (s : State) : s.finish.columns = s.columns := rfl
@[simp] theorem State.finish_rows (s : State) : s.finish.rows = s.rows := rfl
@[simp] theorem State.finish_codeBytes (s : State) : s.finish.codeBytes = s.codeBytes := rfl
@[simp] theorem State.finish_endOfLine (s : State) : s.finish.endOfLine = s.endOfLine := rfl
@[simp] theorem State.finish_encodedByteAlign (s : State) : s.finish.encodedByteAlign = s.encodedByteAlign := rfl
@[simp] theorem State.finish_endOfBlock (s : State) : s.finish.endOfBlock = s.endOfBlock := rfl
@[simp] theorem State.finish_blackIs1 (s : State) : s.finish.blackIs1 = s.blackIs1 := rfl

/-! ### `State.drawRun` -/

@[simp] theorem State.drawRun_busy (s : State) (n : Nat) : (s.drawRun n).busy = s.busy := rfl
@[simp] theorem State.drawRun_done (s : State) (n : Nat) : (s.drawRun n).done = s.done := rfl
@[simp] theorem State.drawRun_dirl (s : State) (n : Nat) : (s.drawRun n).dirl = s.dirl := rfl
@[simp] theorem State.drawRun_fstate (s : State) (n : Nat) : (s.drawRun n).fstate = s.fstate := rfl
@[simp] theorem State.drawRun_err (s : State) (n : Nat) : (s.drawRun n).err = s.err := rfl
@[simp] theorem State.drawRun_cfgK (s : State) (n : Nat) : (s.drawRun n).cfgK = s.cfgK := rfl
@[simp] theorem State.drawRun_cfgFlags (s : State) (n : Nat) : (s.drawRun n).cfgFlags = s.cfgFlags := rfl
@[simp] theorem State.drawRun_cfgDamaged (s : State) (n : Nat) : (s.drawRun n).cfgDamaged = s.cfgDamaged := rfl
@[simp] theorem State.drawRun_cfgColumns (s : State) (n : Nat) : (s.drawRun n).cfgColumns = s.cfgColumns := rfl
@[simp] theorem State.drawRun_cfgRows (s : State) (n : Nat) : (s.drawRun n).cfgRows = s.cfgRows := rfl
@[simp] theorem State.drawRun_codeLen (s : State) (n : Nat) : (s.drawRun n).codeLen = s.codeLen := rfl
@[simp] theorem State.drawRun_pixRows (s : State) (n : Nat) : (s.drawRun n).pixRows = s.pixRows := rfl
@[simp] theorem State.drawRun_bitpos (s : State) (n : Nat) : (s.drawRun n).bitpos = s.bitpos := rfl
@[simp] theorem State.drawRun_color (s : State) (n : Nat) : (s.drawRun n).color = s.color.opp := rfl
@[simp] theorem State.drawRun_a0 (s : State) (n : Nat) : (s.drawRun n).a0 = s.a0 := rfl
@[simp] theorem State.drawRun_col (s : State) (n : Nat) : (s.drawRun n).col = s.col + n := rfl
@[simp] theorem State.drawRun_runacc (s : State) (n : Nat) : (s.drawRun n).runacc = s.runacc := rfl
@[simp] theorem State.drawRun_rowidx (s : State) (n : Nat) : (s.drawRun n).rowidx = s.rowidx := rfl
@[simp] theorem State.drawRun_nrows (s : State) (n : Nat) : (s.drawRun n).nrows = s.nrows := rfl
@[simp] theorem State.drawRun_cur (s : State) (n : Nat) :
    (s.drawRun n).cur = s.cur.fill s.col (s.col + n) s.color := rfl
@[simp] theorem State.drawRun_ref (s : State) (n : Nat) : (s.drawRun n).ref = s.ref := rfl
@[simp] theorem State.drawRun_code (s : State) (n : Nat) : (s.drawRun n).code = s.code := rfl
@[simp] theorem State.drawRun_pix (s : State) (n : Nat) : (s.drawRun n).pix = s.pix := rfl
@[simp] theorem State.drawRun_hphase (s : State) (n : Nat) : (s.drawRun n).hphase = s.hphase := rfl
@[simp] theorem State.drawRun_host (s : State) (n : Nat) : (s.drawRun n).host = s.host := rfl
@[simp] theorem State.drawRun_hostData (s : State) (n : Nat) : (s.drawRun n).hostData = s.hostData := rfl
@[simp] theorem State.drawRun_params (s : State) (n : Nat) : (s.drawRun n).params = s.params := rfl
@[simp] theorem State.drawRun_freeCount (s : State) (n : Nat) : (s.drawRun n).freeCount = s.freeCount := rfl
@[simp] theorem State.drawRun_columns (s : State) (n : Nat) : (s.drawRun n).columns = s.columns := rfl
@[simp] theorem State.drawRun_rows (s : State) (n : Nat) : (s.drawRun n).rows = s.rows := rfl
@[simp] theorem State.drawRun_codeBytes (s : State) (n : Nat) : (s.drawRun n).codeBytes = s.codeBytes := rfl
@[simp] theorem State.drawRun_suppliedRows (s : State) (n : Nat) : (s.drawRun n).suppliedRows = s.suppliedRows := rfl
@[simp] theorem State.drawRun_endOfLine (s : State) (n : Nat) : (s.drawRun n).endOfLine = s.endOfLine := rfl
@[simp] theorem State.drawRun_encodedByteAlign (s : State) (n : Nat) : (s.drawRun n).encodedByteAlign = s.encodedByteAlign := rfl
@[simp] theorem State.drawRun_endOfBlock (s : State) (n : Nat) : (s.drawRun n).endOfBlock = s.endOfBlock := rfl
@[simp] theorem State.drawRun_blackIs1 (s : State) (n : Nat) : (s.drawRun n).blackIs1 = s.blackIs1 := rfl

/-! ### `State.drawTo` -/

@[simp] theorem State.drawTo_busy (s : State) (a : Nat) : (s.drawTo a).busy = s.busy := rfl
@[simp] theorem State.drawTo_done (s : State) (a : Nat) : (s.drawTo a).done = s.done := rfl
@[simp] theorem State.drawTo_dirl (s : State) (a : Nat) : (s.drawTo a).dirl = s.dirl := rfl
@[simp] theorem State.drawTo_fstate (s : State) (a : Nat) : (s.drawTo a).fstate = s.fstate := rfl
@[simp] theorem State.drawTo_err (s : State) (a : Nat) : (s.drawTo a).err = s.err := rfl
@[simp] theorem State.drawTo_cfgK (s : State) (a : Nat) : (s.drawTo a).cfgK = s.cfgK := rfl
@[simp] theorem State.drawTo_cfgFlags (s : State) (a : Nat) : (s.drawTo a).cfgFlags = s.cfgFlags := rfl
@[simp] theorem State.drawTo_cfgDamaged (s : State) (a : Nat) : (s.drawTo a).cfgDamaged = s.cfgDamaged := rfl
@[simp] theorem State.drawTo_cfgColumns (s : State) (a : Nat) : (s.drawTo a).cfgColumns = s.cfgColumns := rfl
@[simp] theorem State.drawTo_cfgRows (s : State) (a : Nat) : (s.drawTo a).cfgRows = s.cfgRows := rfl
@[simp] theorem State.drawTo_codeLen (s : State) (a : Nat) : (s.drawTo a).codeLen = s.codeLen := rfl
@[simp] theorem State.drawTo_pixRows (s : State) (a : Nat) : (s.drawTo a).pixRows = s.pixRows := rfl
@[simp] theorem State.drawTo_bitpos (s : State) (a : Nat) : (s.drawTo a).bitpos = s.bitpos := rfl
@[simp] theorem State.drawTo_color (s : State) (a : Nat) : (s.drawTo a).color = s.color := rfl
@[simp] theorem State.drawTo_a0 (s : State) (a : Nat) : (s.drawTo a).a0 = (a : Int) := rfl
@[simp] theorem State.drawTo_col (s : State) (a : Nat) : (s.drawTo a).col = a := rfl
@[simp] theorem State.drawTo_runacc (s : State) (a : Nat) : (s.drawTo a).runacc = s.runacc := rfl
@[simp] theorem State.drawTo_rowidx (s : State) (a : Nat) : (s.drawTo a).rowidx = s.rowidx := rfl
@[simp] theorem State.drawTo_nrows (s : State) (a : Nat) : (s.drawTo a).nrows = s.nrows := rfl
@[simp] theorem State.drawTo_cur (s : State) (a : Nat) : (s.drawTo a).cur = s.cur.fill s.col a s.color := rfl
@[simp] theorem State.drawTo_ref (s : State) (a : Nat) : (s.drawTo a).ref = s.ref := rfl
@[simp] theorem State.drawTo_code (s : State) (a : Nat) : (s.drawTo a).code = s.code := rfl
@[simp] theorem State.drawTo_pix (s : State) (a : Nat) : (s.drawTo a).pix = s.pix := rfl
@[simp] theorem State.drawTo_hphase (s : State) (a : Nat) : (s.drawTo a).hphase = s.hphase := rfl
@[simp] theorem State.drawTo_host (s : State) (a : Nat) : (s.drawTo a).host = s.host := rfl
@[simp] theorem State.drawTo_hostData (s : State) (a : Nat) : (s.drawTo a).hostData = s.hostData := rfl
@[simp] theorem State.drawTo_params (s : State) (a : Nat) : (s.drawTo a).params = s.params := rfl
@[simp] theorem State.drawTo_freeCount (s : State) (a : Nat) : (s.drawTo a).freeCount = s.freeCount := rfl
@[simp] theorem State.drawTo_columns (s : State) (a : Nat) : (s.drawTo a).columns = s.columns := rfl
@[simp] theorem State.drawTo_rows (s : State) (a : Nat) : (s.drawTo a).rows = s.rows := rfl
@[simp] theorem State.drawTo_codeBytes (s : State) (a : Nat) : (s.drawTo a).codeBytes = s.codeBytes := rfl
@[simp] theorem State.drawTo_suppliedRows (s : State) (a : Nat) : (s.drawTo a).suppliedRows = s.suppliedRows := rfl
@[simp] theorem State.drawTo_endOfLine (s : State) (a : Nat) : (s.drawTo a).endOfLine = s.endOfLine := rfl
@[simp] theorem State.drawTo_encodedByteAlign (s : State) (a : Nat) : (s.drawTo a).encodedByteAlign = s.encodedByteAlign := rfl
@[simp] theorem State.drawTo_endOfBlock (s : State) (a : Nat) : (s.drawTo a).endOfBlock = s.endOfBlock := rfl
@[simp] theorem State.drawTo_blackIs1 (s : State) (a : Nat) : (s.drawTo a).blackIs1 = s.blackIs1 := rfl

/-! ### `State.makeupAction` -/

@[simp] theorem State.makeupAction_busy (s : State) (r : Nat) : (s.makeupAction r).busy = s.busy := rfl
@[simp] theorem State.makeupAction_done (s : State) (r : Nat) : (s.makeupAction r).done = s.done := rfl
@[simp] theorem State.makeupAction_dirl (s : State) (r : Nat) : (s.makeupAction r).dirl = s.dirl := rfl
@[simp] theorem State.makeupAction_fstate (s : State) (r : Nat) : (s.makeupAction r).fstate = s.fstate := rfl
@[simp] theorem State.makeupAction_err (s : State) (r : Nat) : (s.makeupAction r).err = s.err := rfl
@[simp] theorem State.makeupAction_cfgK (s : State) (r : Nat) : (s.makeupAction r).cfgK = s.cfgK := rfl
@[simp] theorem State.makeupAction_cfgFlags (s : State) (r : Nat) : (s.makeupAction r).cfgFlags = s.cfgFlags := rfl
@[simp] theorem State.makeupAction_cfgDamaged (s : State) (r : Nat) :
    (s.makeupAction r).cfgDamaged = s.cfgDamaged := rfl
@[simp] theorem State.makeupAction_cfgColumns (s : State) (r : Nat) :
    (s.makeupAction r).cfgColumns = s.cfgColumns := rfl
@[simp] theorem State.makeupAction_cfgRows (s : State) (r : Nat) : (s.makeupAction r).cfgRows = s.cfgRows := rfl
@[simp] theorem State.makeupAction_codeLen (s : State) (r : Nat) : (s.makeupAction r).codeLen = s.codeLen := rfl
@[simp] theorem State.makeupAction_pixRows (s : State) (r : Nat) : (s.makeupAction r).pixRows = s.pixRows := rfl
@[simp] theorem State.makeupAction_bitpos (s : State) (r : Nat) : (s.makeupAction r).bitpos = s.bitpos := rfl
@[simp] theorem State.makeupAction_color (s : State) (r : Nat) : (s.makeupAction r).color = s.color := rfl
@[simp] theorem State.makeupAction_a0 (s : State) (r : Nat) : (s.makeupAction r).a0 = s.a0 := rfl
@[simp] theorem State.makeupAction_col (s : State) (r : Nat) : (s.makeupAction r).col = s.col := rfl
@[simp] theorem State.makeupAction_runacc (s : State) (r : Nat) : (s.makeupAction r).runacc = s.runacc + r := rfl
@[simp] theorem State.makeupAction_rowidx (s : State) (r : Nat) : (s.makeupAction r).rowidx = s.rowidx := rfl
@[simp] theorem State.makeupAction_nrows (s : State) (r : Nat) : (s.makeupAction r).nrows = s.nrows := rfl
@[simp] theorem State.makeupAction_cur (s : State) (r : Nat) : (s.makeupAction r).cur = s.cur := rfl
@[simp] theorem State.makeupAction_ref (s : State) (r : Nat) : (s.makeupAction r).ref = s.ref := rfl
@[simp] theorem State.makeupAction_code (s : State) (r : Nat) : (s.makeupAction r).code = s.code := rfl
@[simp] theorem State.makeupAction_pix (s : State) (r : Nat) : (s.makeupAction r).pix = s.pix := rfl
@[simp] theorem State.makeupAction_hphase (s : State) (r : Nat) : (s.makeupAction r).hphase = s.hphase := rfl
@[simp] theorem State.makeupAction_host (s : State) (r : Nat) : (s.makeupAction r).host = s.host := rfl
@[simp] theorem State.makeupAction_hostData (s : State) (r : Nat) : (s.makeupAction r).hostData = s.hostData := rfl
@[simp] theorem State.makeupAction_params (s : State) (r : Nat) : (s.makeupAction r).params = s.params := rfl
@[simp] theorem State.makeupAction_freeCount (s : State) (r : Nat) : (s.makeupAction r).freeCount = s.freeCount := rfl
@[simp] theorem State.makeupAction_columns (s : State) (r : Nat) : (s.makeupAction r).columns = s.columns := rfl
@[simp] theorem State.makeupAction_rows (s : State) (r : Nat) : (s.makeupAction r).rows = s.rows := rfl
@[simp] theorem State.makeupAction_codeBytes (s : State) (r : Nat) : (s.makeupAction r).codeBytes = s.codeBytes := rfl
@[simp] theorem State.makeupAction_suppliedRows (s : State) (r : Nat) : (s.makeupAction r).suppliedRows = s.suppliedRows := rfl
@[simp] theorem State.makeupAction_endOfLine (s : State) (r : Nat) : (s.makeupAction r).endOfLine = s.endOfLine := rfl
@[simp] theorem State.makeupAction_encodedByteAlign (s : State) (r : Nat) : (s.makeupAction r).encodedByteAlign = s.encodedByteAlign := rfl
@[simp] theorem State.makeupAction_endOfBlock (s : State) (r : Nat) : (s.makeupAction r).endOfBlock = s.endOfBlock := rfl
@[simp] theorem State.makeupAction_blackIs1 (s : State) (r : Nat) : (s.makeupAction r).blackIs1 = s.blackIs1 := rfl

/-! ### `State.horizontalAction` -/

@[simp] theorem State.horizontalAction_busy (s : State) (n : Nat) : (s.horizontalAction n).busy = s.busy := rfl
@[simp] theorem State.horizontalAction_done (s : State) (n : Nat) : (s.horizontalAction n).done = s.done := rfl
@[simp] theorem State.horizontalAction_dirl (s : State) (n : Nat) : (s.horizontalAction n).dirl = s.dirl := rfl
@[simp] theorem State.horizontalAction_fstate (s : State) (n : Nat) : (s.horizontalAction n).fstate = s.fstate := rfl
@[simp] theorem State.horizontalAction_err (s : State) (n : Nat) : (s.horizontalAction n).err = s.err := rfl
@[simp] theorem State.horizontalAction_cfgK (s : State) (n : Nat) : (s.horizontalAction n).cfgK = s.cfgK := rfl
@[simp] theorem State.horizontalAction_cfgFlags (s : State) (n : Nat) :
    (s.horizontalAction n).cfgFlags = s.cfgFlags := rfl
@[simp] theorem State.horizontalAction_cfgDamaged (s : State) (n : Nat) :
    (s.horizontalAction n).cfgDamaged = s.cfgDamaged := rfl
@[simp] theorem State.horizontalAction_cfgColumns (s : State) (n : Nat) :
    (s.horizontalAction n).cfgColumns = s.cfgColumns := rfl
@[simp] theorem State.horizontalAction_cfgRows (s : State) (n : Nat) :
    (s.horizontalAction n).cfgRows = s.cfgRows := rfl
@[simp] theorem State.horizontalAction_codeLen (s : State) (n : Nat) :
    (s.horizontalAction n).codeLen = s.codeLen := rfl
@[simp] theorem State.horizontalAction_pixRows (s : State) (n : Nat) :
    (s.horizontalAction n).pixRows = s.pixRows := rfl
@[simp] theorem State.horizontalAction_bitpos (s : State) (n : Nat) :
    (s.horizontalAction n).bitpos = s.bitpos + n := rfl
@[simp] theorem State.horizontalAction_color (s : State) (n : Nat) : (s.horizontalAction n).color = s.color := rfl
@[simp] theorem State.horizontalAction_a0 (s : State) (n : Nat) : (s.horizontalAction n).a0 = s.a0 := rfl
@[simp] theorem State.horizontalAction_col (s : State) (n : Nat) : (s.horizontalAction n).col = s.col := rfl
@[simp] theorem State.horizontalAction_runacc (s : State) (n : Nat) : (s.horizontalAction n).runacc = 0 := rfl
@[simp] theorem State.horizontalAction_rowidx (s : State) (n : Nat) : (s.horizontalAction n).rowidx = s.rowidx := rfl
@[simp] theorem State.horizontalAction_nrows (s : State) (n : Nat) : (s.horizontalAction n).nrows = s.nrows := rfl
@[simp] theorem State.horizontalAction_cur (s : State) (n : Nat) : (s.horizontalAction n).cur = s.cur := rfl
@[simp] theorem State.horizontalAction_ref (s : State) (n : Nat) : (s.horizontalAction n).ref = s.ref := rfl
@[simp] theorem State.horizontalAction_code (s : State) (n : Nat) : (s.horizontalAction n).code = s.code := rfl
@[simp] theorem State.horizontalAction_pix (s : State) (n : Nat) : (s.horizontalAction n).pix = s.pix := rfl
@[simp] theorem State.horizontalAction_hphase (s : State) (n : Nat) : (s.horizontalAction n).hphase = .first := rfl
@[simp] theorem State.horizontalAction_host (s : State) (n : Nat) : (s.horizontalAction n).host = s.host := rfl
@[simp] theorem State.horizontalAction_hostData (s : State) (n : Nat) :
    (s.horizontalAction n).hostData = s.hostData := rfl
@[simp] theorem State.horizontalAction_params (s : State) (n : Nat) : (s.horizontalAction n).params = s.params := rfl
@[simp] theorem State.horizontalAction_freeCount (s : State) (n : Nat) :
    (s.horizontalAction n).freeCount = s.freeCount := rfl
@[simp] theorem State.horizontalAction_columns (s : State) (n : Nat) : (s.horizontalAction n).columns = s.columns := rfl
@[simp] theorem State.horizontalAction_rows (s : State) (n : Nat) : (s.horizontalAction n).rows = s.rows := rfl
@[simp] theorem State.horizontalAction_codeBytes (s : State) (n : Nat) : (s.horizontalAction n).codeBytes = s.codeBytes := rfl
@[simp] theorem State.horizontalAction_suppliedRows (s : State) (n : Nat) : (s.horizontalAction n).suppliedRows = s.suppliedRows := rfl
@[simp] theorem State.horizontalAction_endOfLine (s : State) (n : Nat) : (s.horizontalAction n).endOfLine = s.endOfLine := rfl
@[simp] theorem State.horizontalAction_encodedByteAlign (s : State) (n : Nat) : (s.horizontalAction n).encodedByteAlign = s.encodedByteAlign := rfl
@[simp] theorem State.horizontalAction_endOfBlock (s : State) (n : Nat) : (s.horizontalAction n).endOfBlock = s.endOfBlock := rfl
@[simp] theorem State.horizontalAction_blackIs1 (s : State) (n : Nat) : (s.horizontalAction n).blackIs1 = s.blackIs1 := rfl

/-! ### `State.storeRow` -/

@[simp] theorem State.storeRow_busy (s : State) (r : Nat) : (s.storeRow r).busy = s.busy := rfl
@[simp] theorem State.storeRow_done (s : State) (r : Nat) : (s.storeRow r).done = s.done := rfl
@[simp] theorem State.storeRow_dirl (s : State) (r : Nat) : (s.storeRow r).dirl = s.dirl := rfl
@[simp] theorem State.storeRow_fstate (s : State) (r : Nat) : (s.storeRow r).fstate = s.fstate := rfl
@[simp] theorem State.storeRow_err (s : State) (r : Nat) : (s.storeRow r).err = s.err := rfl
@[simp] theorem State.storeRow_cfgK (s : State) (r : Nat) : (s.storeRow r).cfgK = s.cfgK := rfl
@[simp] theorem State.storeRow_cfgFlags (s : State) (r : Nat) : (s.storeRow r).cfgFlags = s.cfgFlags := rfl
@[simp] theorem State.storeRow_cfgDamaged (s : State) (r : Nat) : (s.storeRow r).cfgDamaged = s.cfgDamaged := rfl
@[simp] theorem State.storeRow_cfgColumns (s : State) (r : Nat) : (s.storeRow r).cfgColumns = s.cfgColumns := rfl
@[simp] theorem State.storeRow_cfgRows (s : State) (r : Nat) : (s.storeRow r).cfgRows = s.cfgRows := rfl
@[simp] theorem State.storeRow_codeLen (s : State) (r : Nat) : (s.storeRow r).codeLen = s.codeLen := rfl
@[simp] theorem State.storeRow_pixRows (s : State) (r : Nat) : (s.storeRow r).pixRows = s.pixRows := rfl
@[simp] theorem State.storeRow_bitpos (s : State) (r : Nat) : (s.storeRow r).bitpos = s.bitpos := rfl
@[simp] theorem State.storeRow_color (s : State) (r : Nat) : (s.storeRow r).color = s.color := rfl
@[simp] theorem State.storeRow_a0 (s : State) (r : Nat) : (s.storeRow r).a0 = s.a0 := rfl
@[simp] theorem State.storeRow_col (s : State) (r : Nat) : (s.storeRow r).col = s.col := rfl
@[simp] theorem State.storeRow_runacc (s : State) (r : Nat) : (s.storeRow r).runacc = s.runacc := rfl
@[simp] theorem State.storeRow_rowidx (s : State) (r : Nat) : (s.storeRow r).rowidx = s.rowidx := rfl
@[simp] theorem State.storeRow_nrows (s : State) (r : Nat) : (s.storeRow r).nrows = s.nrows := rfl
@[simp] theorem State.storeRow_cur (s : State) (r : Nat) : (s.storeRow r).cur = s.cur := rfl
@[simp] theorem State.storeRow_ref (s : State) (r : Nat) : (s.storeRow r).ref = s.ref := rfl
@[simp] theorem State.storeRow_code (s : State) (r : Nat) : (s.storeRow r).code = s.code := rfl
@[simp] theorem State.storeRow_pix (s : State) (r : Nat) :
    (s.storeRow r).pix = s.pix.writeBlock (r * s.columns) ((s.cur.take s.columns).map (toByte s.blackIs1)) := rfl
@[simp] theorem State.storeRow_hphase (s : State) (r : Nat) : (s.storeRow r).hphase = s.hphase := rfl
@[simp] theorem State.storeRow_host (s : State) (r : Nat) : (s.storeRow r).host = s.host := rfl
@[simp] theorem State.storeRow_hostData (s : State) (r : Nat) : (s.storeRow r).hostData = s.hostData := rfl
@[simp] theorem State.storeRow_params (s : State) (r : Nat) : (s.storeRow r).params = s.params := rfl
@[simp] theorem State.storeRow_freeCount (s : State) (r : Nat) : (s.storeRow r).freeCount = s.freeCount := rfl
@[simp] theorem State.storeRow_columns (s : State) (r : Nat) : (s.storeRow r).columns = s.columns := rfl
@[simp] theorem State.storeRow_rows (s : State) (r : Nat) : (s.storeRow r).rows = s.rows := rfl
@[simp] theorem State.storeRow_codeBytes (s : State) (r : Nat) : (s.storeRow r).codeBytes = s.codeBytes := rfl
@[simp] theorem State.storeRow_suppliedRows (s : State) (r : Nat) : (s.storeRow r).suppliedRows = s.suppliedRows := rfl
@[simp] theorem State.storeRow_endOfLine (s : State) (r : Nat) : (s.storeRow r).endOfLine = s.endOfLine := rfl
@[simp] theorem State.storeRow_encodedByteAlign (s : State) (r : Nat) : (s.storeRow r).encodedByteAlign = s.encodedByteAlign := rfl
@[simp] theorem State.storeRow_endOfBlock (s : State) (r : Nat) : (s.storeRow r).endOfBlock = s.endOfBlock := rfl
@[simp] theorem State.storeRow_blackIs1 (s : State) (r : Nat) : (s.storeRow r).blackIs1 = s.blackIs1 := rfl

/-! ### `State.closeRow` -/

@[simp] theorem State.closeRow_busy (s : State) : s.closeRow.busy = s.busy := rfl
@[simp] theorem State.closeRow_done (s : State) : s.closeRow.done = s.done := rfl
@[simp] theorem State.closeRow_dirl (s : State) : s.closeRow.dirl = s.dirl := rfl
@[simp] theorem State.closeRow_fstate (s : State) : s.closeRow.fstate = s.fstate := rfl
@[simp] theorem State.closeRow_err (s : State) : s.closeRow.err = s.err := rfl
@[simp] theorem State.closeRow_cfgK (s : State) : s.closeRow.cfgK = s.cfgK := rfl
@[simp] theorem State.closeRow_cfgFlags (s : State) : s.closeRow.cfgFlags = s.cfgFlags := rfl
@[simp] theorem State.closeRow_cfgDamaged (s : State) : s.closeRow.cfgDamaged = s.cfgDamaged := rfl
@[simp] theorem State.closeRow_cfgColumns (s : State) : s.closeRow.cfgColumns = s.cfgColumns := rfl
@[simp] theorem State.closeRow_cfgRows (s : State) : s.closeRow.cfgRows = s.cfgRows := rfl
@[simp] theorem State.closeRow_codeLen (s : State) : s.closeRow.codeLen = s.codeLen := rfl
@[simp] theorem State.closeRow_pixRows (s : State) : s.closeRow.pixRows = s.pixRows := rfl
@[simp] theorem State.closeRow_bitpos (s : State) :
    s.closeRow.bitpos = if s.encodedByteAlign then alignUp s.bitpos else s.bitpos := rfl
@[simp] theorem State.closeRow_color (s : State) : s.closeRow.color = s.color := rfl
@[simp] theorem State.closeRow_a0 (s : State) : s.closeRow.a0 = s.a0 := rfl
@[simp] theorem State.closeRow_col (s : State) : s.closeRow.col = s.col := rfl
@[simp] theorem State.closeRow_runacc (s : State) : s.closeRow.runacc = s.runacc := rfl
@[simp] theorem State.closeRow_rowidx (s : State) : s.closeRow.rowidx = s.rowidx + 1 := rfl
@[simp] theorem State.closeRow_nrows (s : State) : s.closeRow.nrows = s.nrows := rfl
@[simp] theorem State.closeRow_cur (s : State) : s.closeRow.cur = s.cur := rfl
@[simp] theorem State.closeRow_ref (s : State) : s.closeRow.ref = s.ref.overwrite (s.cur.take s.columns) := rfl
@[simp] theorem State.closeRow_code (s : State) : s.closeRow.code = s.code := rfl
@[simp] theorem State.closeRow_pix (s : State) : s.closeRow.pix = s.pix := rfl
@[simp] theorem State.closeRow_hphase (s : State) : s.closeRow.hphase = s.hphase := rfl
@[simp] theorem State.closeRow_host (s : State) : s.closeRow.host = s.host := rfl
@[simp] theorem State.closeRow_hostData (s : State) : s.closeRow.hostData = s.hostData := rfl
@[simp] theorem State.closeRow_params (s : State) : s.closeRow.params = s.params := rfl
@[simp] theorem State.closeRow_freeCount (s : State) : s.closeRow.freeCount = s.freeCount := rfl
@[simp] theorem State.closeRow_columns (s : State) : s.closeRow.columns = s.columns := rfl
@[simp] theorem State.closeRow_rows (s : State) : s.closeRow.rows = s.rows := rfl
@[simp] theorem State.closeRow_codeBytes (s : State) : s.closeRow.codeBytes = s.codeBytes := rfl
@[simp] theorem State.closeRow_suppliedRows (s : State) : s.closeRow.suppliedRows = s.suppliedRows := rfl
@[simp] theorem State.closeRow_endOfLine (s : State) : s.closeRow.endOfLine = s.endOfLine := rfl
@[simp] theorem State.closeRow_encodedByteAlign (s : State) : s.closeRow.encodedByteAlign = s.encodedByteAlign := rfl
@[simp] theorem State.closeRow_endOfBlock (s : State) : s.closeRow.endOfBlock = s.endOfBlock := rfl
@[simp] theorem State.closeRow_blackIs1 (s : State) : s.closeRow.blackIs1 = s.blackIs1 := rfl

/-! ### `State.finishEncode` -/

@[simp] theorem State.finishEncode_busy (s : State) : s.finishEncode.busy = false := rfl
@[simp] theorem State.finishEncode_done (s : State) : s.finishEncode.done = true := rfl
@[simp] theorem State.finishEncode_dirl (s : State) : s.finishEncode.dirl = s.dirl := rfl
@[simp] theorem State.finishEncode_fstate (s : State) : s.finishEncode.fstate = .terminated := rfl
@[simp] theorem State.finishEncode_err (s : State) : s.finishEncode.err = s.err := rfl
@[simp] theorem State.finishEncode_cfgK (s : State) : s.finishEncode.cfgK = s.cfgK := rfl
@[simp] theorem State.finishEncode_cfgFlags (s : State) : s.finishEncode.cfgFlags = s.cfgFlags := rfl
@[simp] theorem State.finishEncode_cfgDamaged (s : State) : s.finishEncode.cfgDamaged = s.cfgDamaged := rfl
@[simp] theorem State.finishEncode_cfgColumns (s : State) : s.finishEncode.cfgColumns = s.cfgColumns := rfl
@[simp] theorem State.finishEncode_cfgRows (s : State) : s.finishEncode.cfgRows = s.cfgRows := rfl
@[simp] theorem State.finishEncode_codeLen (s : State) : s.finishEncode.codeLen = ((s.bitpos + 7) / 8 : Nat) := rfl
@[simp] theorem State.finishEncode_pixRows (s : State) : s.finishEncode.pixRows = s.pixRows := rfl
@[simp] theorem State.finishEncode_bitpos (s : State) : s.finishEncode.bitpos = s.bitpos := rfl
@[simp] theorem State.finishEncode_color (s : State) : s.finishEncode.color = s.color := rfl
@[simp] theorem State.finishEncode_a0 (s : State) : s.finishEncode.a0 = s.a0 := rfl
@[simp] theorem State.finishEncode_col (s : State) : s.finishEncode.col = s.col := rfl
@[simp] theorem State.finishEncode_runacc (s : State) : s.finishEncode.runacc = s.runacc := rfl
@[simp] theorem State.finishEncode_rowidx (s : State) : s.finishEncode.rowidx = s.rowidx := rfl
@[simp] theorem State.finishEncode_nrows (s : State) : s.finishEncode.nrows = s.nrows := rfl
@[simp] theorem State.finishEncode_cur (s : State) : s.finishEncode.cur = s.cur := rfl
@[simp] theorem State.finishEncode_ref (s : State) : s.finishEncode.ref = s.ref := rfl
@[simp] theorem State.finishEncode_code (s : State) : s.finishEncode.code = s.code := rfl
@[simp] theorem State.finishEncode_pix (s : State) : s.finishEncode.pix = s.pix := rfl
@[simp] theorem State.finishEncode_hphase (s : State) : s.finishEncode.hphase = s.hphase := rfl
@[simp] theorem State.finishEncode_host (s : State) : s.finishEncode.host = s.host := rfl
@[simp] theorem State.finishEncode_hostData (s : State) : s.finishEncode.hostData = s.hostData := rfl
@[simp] theorem State.finishEncode_params (s : State) : s.finishEncode.params = s.params := rfl
@[simp] theorem State.finishEncode_freeCount (s : State) : s.finishEncode.freeCount = s.freeCount := rfl
@[simp] theorem State.finishEncode_columns (s : State) : s.finishEncode.columns = s.columns := rfl
@[simp] theorem State.finishEncode_rows (s : State) : s.finishEncode.rows = s.rows := rfl
@[simp] theorem State.finishEncode_suppliedRows (s : State) : s.finishEncode.suppliedRows = s.suppliedRows := rfl
@[simp] theorem State.finishEncode_endOfLine (s : State) : s.finishEncode.endOfLine = s.endOfLine := rfl
@[simp] theorem State.finishEncode_encodedByteAlign (s : State) : s.finishEncode.encodedByteAlign = s.encodedByteAlign := rfl
@[simp] theorem State.finishEncode_endOfBlock (s : State) : s.finishEncode.endOfBlock = s.endOfBlock := rfl
@[simp] theorem State.finishEncode_blackIs1 (s : State) : s.finishEncode.blackIs1 = s.blackIs1 := rfl

/-! ### `State.endRowIf` -/

@[simp] theorem State.endRowIf_busy (s : State) (b : Bool) : (s.endRowIf b).busy = s.busy := by cases b <;> rfl
@[simp] theorem State.endRowIf_done (s : State) (b : Bool) : (s.endRowIf b).done = s.done := by cases b <;> rfl
@[simp] theorem State.endRowIf_dirl (s : State) (b : Bool) : (s.endRowIf b).dirl = s.dirl := by cases b <;> rfl
@[simp] theorem State.endRowIf_fstate (s : State) (b : Bool) :
    (s.endRowIf b).fstate = if b then .rowComplete else s.fstate := by cases b <;> rfl
@[simp] theorem State.endRowIf_err (s : State) (b : Bool) : (s.endRowIf b).err = s.err := by cases b <;> rfl
@[simp] theorem State.endRowIf_cfgK (s : State) (b : Bool) : (s.endRowIf b).cfgK = s.cfgK := by cases b <;> rfl
@[simp] theorem State.endRowIf_cfgFlags (s : State) (b : Bool) :
    (s.endRowIf b).cfgFlags = s.cfgFlags := by cases b <;> rfl
@[simp] theorem State.endRowIf_cfgDamaged (s : State) (b : Bool) :
    (s.endRowIf b).cfgDamaged = s.cfgDamaged := by cases b <;> rfl
@[simp] theorem State.endRowIf_cfgColumns (s : State) (b : Bool) :
    (s.endRowIf b).cfgColumns = s.cfgColumns := by cases b <;> rfl
@[simp] theorem State.endRowIf_cfgRows (s : State) (b : Bool) :
    (s.endRowIf b).cfgRows = s.cfgRows := by cases b <;> rfl
@[simp] theorem State.endRowIf_codeLen (s : State) (b : Bool) :
    (s.endRowIf b).codeLen = s.codeLen := by cases b <;> rfl
@[simp] theorem State.endRowIf_pixRows (s : State) (b : Bool) :
    (s.endRowIf b).pixRows = s.pixRows := by cases b <;> rfl
@[simp] theorem State.endRowIf_bitpos (s : State) (b : Bool) : (s.endRowIf b).bitpos = s.bitpos := by cases b <;> rfl
@[simp] theorem State.endRowIf_color (s : State) (b : Bool) : (s.endRowIf b).color = s.color := by cases b <;> rfl
@[simp] theorem State.endRowIf_a0 (s : State) (b : Bool) : (s.endRowIf b).a0 = s.a0 := by cases b <;> rfl
@[simp] theorem State.endRowIf_col (s : State) (b : Bool) : (s.endRowIf b).col = s.col := by cases b <;> rfl
@[simp] theorem State.endRowIf_runacc (s : State) (b : Bool) : (s.endRowIf b).runacc = s.runacc := by cases b <;> rfl
@[simp] theorem State.endRowIf_rowidx (s : State) (b : Bool) : (s.endRowIf b).rowidx = s.rowidx := by cases b <;> rfl
@[simp] theorem State.endRowIf_nrows (s : State) (b : Bool) : (s.endRowIf b).nrows = s.nrows := by cases b <;> rfl
@[simp] theorem State.endRowIf_cur (s : State) (b : Bool) : (s.endRowIf b).cur = s.cur := by cases b <;> rfl
@[simp] theorem State.endRowIf_ref (s : State) (b : Bool) : (s.endRowIf b).ref = s.ref := by cases b <;> rfl
@[simp] theorem State.endRowIf_code (s : State) (b : Bool) : (s.endRowIf b).code = s.code := by cases b <;> rfl
@[simp] theorem State.endRowIf_pix (s : State) (b : Bool) : (s.endRowIf b).pix = s.pix := by cases b <;> rfl
@[simp] theorem State.endRowIf_hphase (s : State) (b : Bool) : (s.endRowIf b).hphase = s.hphase := by cases b <;> rfl
@[simp] theorem State.endRowIf_host (s : State) (b : Bool) : (s.endRowIf b).host = s.host := by cases b <;> rfl
@[simp] theorem State.endRowIf_hostData (s : State) (b : Bool) :
    (s.endRowIf b).hostData = s.hostData := by cases b <;> rfl
@[simp] theorem State.endRowIf_params (s : State) (b : Bool) : (s.endRowIf b).params = s.params := by cases b <;> rfl
@[simp] theorem State.endRowIf_freeCount (s : State) (b : Bool) :
    (s.endRowIf b).freeCount = s.freeCount := by cases b <;> rfl

/-! ### `State.beginRow` -/

@[simp] theorem State.beginRow_busy (s : State) :
    s.beginRow.busy = s.busy := by
  unfold State.beginRow; split <;> rfl
@[simp] theorem State.beginRow_done (s : State) :
    s.beginRow.done = s.done := by
  unfold State.beginRow; split <;> rfl
@[simp] theorem State.beginRow_dirl (s : State) :
    s.beginRow.dirl = s.dirl := by
  unfold State.beginRow; split <;> rfl
@[simp] theorem State.beginRow_fstate (s : State) :
    s.beginRow.fstate = .decodingRow := by
  unfold State.beginRow; split <;> rfl
@[simp] theorem State.beginRow_err (s : State) :
    s.beginRow.err = s.err := by
  unfold State.beginRow; split <;> rfl
@[simp] theorem State.beginRow_cfgK (s : State) :
    s.beginRow.cfgK = s.cfgK := by
  unfold State.beginRow; split <;> rfl
@[simp] theorem State.beginRow_cfgFlags (s : State) :
    s.beginRow.cfgFlags = s.cfgFlags := by
  unfold State.beginRow; split <;> rfl
@[simp] theorem State.beginRow_cfgDamaged (s : State) :
    s.beginRow.cfgDamaged = s.cfgDamaged := by
  unfold State.beginRow; split <;> rfl
@[simp] theorem State.beginRow_cfgColumns (s : State) :
    s.beginRow.cfgColumns = s.cfgColumns := by
  unfold State.beginRow; split <;> rfl
@[simp] theorem State.beginRow_cfgRows (s : State) :
    s.beginRow.cfgRows = s.cfgRows := by
  unfold State.beginRow; split <;> rfl
@[simp] theorem State.beginRow_codeLen (s : State) :
    s.beginRow.codeLen = s.codeLen := by
  unfold State.beginRow; split <;> rfl
@[simp] theorem State.beginRow_pixRows (s : State) :
    s.beginRow.pixRows = s.pixRows := by
  unfold State.beginRow; split <;> rfl
@[simp] theorem State.beginRow_bitpos (s : State) :
    s.beginRow.bitpos = s.bitpos := by
  unfold State.beginRow; split <;> rfl
@[simp] theorem State.beginRow_color (s : State) :
    s.beginRow.color = .white := by
  unfold State.beginRow; split <;> rfl
@[simp] theorem State.beginRow_col (s : State) :
    s.beginRow.col = 0 := by
  unfold State.beginRow; split <;> rfl
@[simp] theorem State.beginRow_rowidx (s : State) :
    s.beginRow.rowidx = s.rowidx := by
  unfold State.beginRow; split <;> rfl
@[simp] theorem State.beginRow_nrows (s : State) :
    s.beginRow.nrows = s.nrows := by
  unfold State.beginRow; split <;> rfl
@[simp] theorem State.beginRow_cur (s : State) :
    s.beginRow.cur = s.cur := by
  unfold State.beginRow; split <;> rfl
@[simp] theorem State.beginRow_ref (s : State) :
    s.beginRow.ref = s.ref := by
  unfold State.beginRow; split <;> rfl
@[simp] theorem State.beginRow_code (s : State) :
    s.beginRow.code = s.code := by
  unfold State.beginRow; split <;> rfl
@[simp] theorem State.beginRow_pix (s : State) :
    s.beginRow.pix = s.pix := by
  unfold State.beginRow; split <;> rfl
@[simp] theorem State.beginRow_hphase (s : State) :
    s.beginRow.hphase = .none := by
  unfold State.beginRow; split <;> rfl
@[simp] theorem State.beginRow_host (s : State) :
    s.beginRow.host = s.host := by
  unfold State.beginRow; split <;> rfl
@[simp] theorem State.beginRow_hostData (s : State) :
    s.beginRow.hostData = s.hostData := by
  unfold State.beginRow; split <;> rfl
@[simp] theorem State.beginRow_params (s : State) :
    s.beginRow.params = s.params := by
  unfold State.beginRow; split <;> rfl
@[simp] theorem State.beginRow_freeCount (s : State) :
    s.beginRow.freeCount = s.freeCount := by
  unfold State.beginRow; split <;> rfl

/-! ### `State.whiteReference` -/

@[simp] theorem State.whiteReference_busy (s : State) :
    s.whiteReference.busy = s.busy := by
  unfold State.whiteReference; split <;> rfl
@[simp] theorem State.whiteReference_done (s : State) :
    s.whiteReference.done = s.done := by
  unfold State.whiteReference; split <;> rfl
@[simp] theorem State.whiteReference_dirl (s : State) :
    s.whiteReference.dirl = s.dirl := by
  unfold State.whiteReference; split <;> rfl
@[simp] theorem State.whiteReference_fstate (s : State) :
    s.whiteReference.fstate = s.fstate := by
  unfold State.whiteReference; split <;> rfl
@[simp] theorem State.whiteReference_err (s : State) :
    s.whiteReference.err = s.err := by
  unfold State.whiteReference; split <;> rfl
@[simp] theorem State.whiteReference_cfgK (s : State) :
    s.whiteReference.cfgK = s.cfgK := by
  unfold State.whiteReference; split <;> rfl
@[simp] theorem State.whiteReference_cfgFlags (s : State) :
    s.whiteReference.cfgFlags = s.cfgFlags := by
  unfold State.whiteReference; split <;> rfl
@[simp] theorem State.whiteReference_cfgDamaged (s : State) :
    s.whiteReference.cfgDamaged = s.cfgDamaged := by
  unfold State.whiteReference; split <;> rfl
@[simp] theorem State.whiteReference_cfgColumns (s : State) :
    s.whiteReference.cfgColumns = s.cfgColumns := by
  unfold State.whiteReference; split <;> rfl
@[simp] theorem State.whiteReference_cfgRows (s : State) :
    s.whiteReference.cfgRows = s.cfgRows := by
  unfold State.whiteReference; split <;> rfl
@[simp] theorem State.whiteReference_codeLen (s : State) :
    s.whiteReference.codeLen = s.codeLen := by
  unfold State.whiteReference; split <;> rfl
@[simp] theorem State.whiteReference_pixRows (s : State) :
    s.whiteReference.pixRows = s.pixRows := by
  unfold State.whiteReference; split <;> rfl
@[simp] theorem State.whiteReference_bitpos (s : State) :
    s.whiteReference.bitpos = s.bitpos := by
  unfold State.whiteReference; split <;> rfl
@[simp] theorem State.whiteReference_color (s : State) :
    s.whiteReference.color = s.color := by
  unfold State.whiteReference; split <;> rfl
@[simp] theorem State.whiteReference_a0 (s : State) :
    s.whiteReference.a0 = s.a0 := by
  unfold State.whiteReference; split <;> rfl
@[simp] theorem State.whiteReference_col (s : State) :
    s.whiteReference.col = s.col := by
  unfold State.whiteReference; split <;> rfl
@[simp] theorem State.whiteReference_runacc (s : State) :
    s.whiteReference.runacc = s.runacc := by
  unfold State.whiteReference; split <;> rfl
@[simp] theorem State.whiteReference_rowidx (s : State) :
    s.whiteReference.rowidx = s.rowidx := by
  unfold State.whiteReference; split <;> rfl
@[simp] theorem State.whiteReference_nrows (s : State) :
    s.whiteReference.nrows = s.nrows := by
  unfold State.whiteReference; split <;> rfl
@[simp] theorem State.whiteReference_cur (s : State) :
    s.whiteReference.cur = s.cur := by
  unfold State.whiteReference; split <;> rfl
@[simp] theorem State.whiteReference_code (s : State) :
    s.whiteReference.code = s.code := by
  unfold State.whiteReference; split <;> rfl
@[simp] theorem State.whiteReference_pix (s : State) :
    s.whiteReference.pix = s.pix := by
  unfold State.whiteReference; split <;> rfl
@[simp] theorem State.whiteReference_hphase (s : State) :
    s.whiteReference.hphase = s.hphase := by
  unfold State.whiteReference; split <;> rfl
@[simp] theorem State.whiteReference_host (s : State) :
    s.whiteReference.host = s.host := by
  unfold State.whiteReference; split <;> rfl
@[simp] theorem State.whiteReference_hostData (s : State) :
    s.whiteReference.hostData = s.hostData := by
  unfold State.whiteReference; split <;> rfl
@[simp] theorem State.whiteReference_params (s : State) :
    s.whiteReference.params = s.params := by
  unfold State.whiteReference; split <;> rfl
@[simp] theorem State.whiteReference_freeCount (s : State) :
    s.whiteReference.freeCount = s.freeCount := by
  unfold State.whiteReference; split <;> rfl

/-! ### `State.startCall` -/

@[simp] theorem State.startCall_busy (s : State) (d : Dir) :
    (s.startCall d).busy = true := by
  simp [State.startCall]
@[simp] theorem State.startCall_done (s : State) (d : Dir) :
    (s.startCall d).done = false := by
  simp [State.startCall]
@[simp] theorem State.startCall_dirl (s : State) (d : Dir) :
    (s.startCall d).dirl = d := by
  simp [State.startCall]
@[simp] theorem State.startCall_fstate (s : State) (d : Dir) :
    (s.startCall d).fstate = .awaitingSync := by
  simp [State.startCall]
@[simp] theorem State.startCall_err (s : State) (d : Dir) :
    (s.startCall d).err = .none := by
  simp [State.startCall]
@[simp] theorem State.startCall_cfgK (s : State) (d : Dir) :
    (s.startCall d).cfgK = s.cfgK := by
  simp [State.startCall]
@[simp] theorem State.startCall_cfgFlags (s : State) (d : Dir) :
    (s.startCall d).cfgFlags = s.cfgFlags := by
  simp [State.startCall]
@[simp] theorem State.startCall_cfgDamaged (s : State) (d : Dir) :
    (s.startCall d).cfgDamaged = s.cfgDamaged := by
  simp [State.startCall]
@[simp] theorem State.startCall_cfgColumns (s : State) (d : Dir) :
    (s.startCall d).cfgColumns = s.cfgColumns := by
  simp [State.startCall]
@[simp] theorem State.startCall_cfgRows (s : State) (d : Dir) :
    (s.startCall d).cfgRows = s.cfgRows := by
  simp [State.startCall]
@[simp] theorem State.startCall_codeLen (s : State) (d : Dir) :
    (s.startCall d).codeLen = s.codeLen := by
  simp [State.startCall]
@[simp] theorem State.startCall_pixRows (s : State) (d : Dir) :
    (s.startCall d).pixRows = s.pixRows := by
  simp [State.startCall]
@[simp] theorem State.startCall_bitpos (s : State) (d : Dir) :
    (s.startCall d).bitpos = 0 := by
  simp [State.startCall]
@[simp] theorem State.startCall_color (s : State) (d : Dir) :
    (s.startCall d).color = s.color := by
  simp [State.startCall]
@[simp] theorem State.startCall_a0 (s : State) (d : Dir) :
    (s.startCall d).a0 = s.a0 := by
  simp [State.startCall]
@[simp] theorem State.startCall_col (s : State) (d : Dir) :
    (s.startCall d).col = s.col := by
  simp [State.startCall]
@[simp] theorem State.startCall_runacc (s : State) (d : Dir) :
    (s.startCall d).runacc = 0 := by
  simp [State.startCall]
@[simp] theorem State.startCall_rowidx (s : State) (d : Dir) :
    (s.startCall d).rowidx = 0 := by
  simp [State.startCall]
@[simp] theorem State.startCall_nrows (s : State) (d : Dir) :
    (s.startCall d).nrows = s.nrows := by
  simp [State.startCall]
@[simp] theorem State.startCall_cur (s : State) (d : Dir) :
    (s.startCall d).cur = s.cur := by
  simp [State.startCall]
@[simp] theorem State.startCall_code (s : State) (d : Dir) :
    (s.startCall d).code = s.code := by
  simp [State.startCall]
@[simp] theorem State.startCall_pix (s : State) (d : Dir) :
    (s.startCall d).pix = s.pix := by
  simp [State.startCall]
@[simp] theorem State.startCall_hphase (s : State) (d : Dir) :
    (s.startCall d).hphase = .none := by
  simp [State.startCall]
@[simp] theorem State.startCall_host (s : State) (d : Dir) :
    (s.startCall d).host = s.host := by
  simp [State.startCall]
@[simp] theorem State.startCall_hostData (s : State) (d : Dir) :
    (s.startCall d).hostData = s.hostData := by
  simp [State.startCall]
@[simp] theorem State.startCall_params (s : State) (d : Dir) :
    (s.startCall d).params = s.params := by
  simp [State.startCall]
@[simp] theorem State.startCall_freeCount (s : State) (d : Dir) :
    (s.startCall d).freeCount = s.freeCount := by
  simp [State.startCall]

/-! ### `State.resetBlock` -/

@[simp] theorem State.resetBlock_busy (s : State) : s.resetBlock.busy = State.reset.busy := rfl
@[simp] theorem State.resetBlock_done (s : State) : s.resetBlock.done = State.reset.done := rfl
@[simp] theorem State.resetBlock_dirl (s : State) : s.resetBlock.dirl = State.reset.dirl := rfl
@[simp] theorem State.resetBlock_fstate (s : State) : s.resetBlock.fstate = State.reset.fstate := rfl
@[simp] theorem State.resetBlock_err (s : State) : s.resetBlock.err = State.reset.err := rfl
@[simp] theorem State.resetBlock_cfgK (s : State) : s.resetBlock.cfgK = State.reset.cfgK := rfl
@[simp] theorem State.resetBlock_cfgFlags (s : State) : s.resetBlock.cfgFlags = State.reset.cfgFlags := rfl
@[simp] theorem State.resetBlock_cfgDamaged (s : State) : s.resetBlock.cfgDamaged = State.reset.cfgDamaged := rfl
@[simp] theorem State.resetBlock_cfgColumns (s : State) : s.resetBlock.cfgColumns = State.reset.cfgColumns := rfl
@[simp] theorem State.resetBlock_cfgRows (s : State) : s.resetBlock.cfgRows = State.reset.cfgRows := rfl
@[simp] theorem State.resetBlock_codeLen (s : State) : s.resetBlock.codeLen = State.reset.codeLen := rfl
@[simp] theorem State.resetBlock_pixRows (s : State) : s.resetBlock.pixRows = State.reset.pixRows := rfl
@[simp] theorem State.resetBlock_bitpos (s : State) : s.resetBlock.bitpos = State.reset.bitpos := rfl
@[simp] theorem State.resetBlock_color (s : State) : s.resetBlock.color = State.reset.color := rfl
@[simp] theorem State.resetBlock_a0 (s : State) : s.resetBlock.a0 = State.reset.a0 := rfl
@[simp] theorem State.resetBlock_col (s : State) : s.resetBlock.col = State.reset.col := rfl
@[simp] theorem State.resetBlock_runacc (s : State) : s.resetBlock.runacc = State.reset.runacc := rfl
@[simp] theorem State.resetBlock_rowidx (s : State) : s.resetBlock.rowidx = State.reset.rowidx := rfl
@[simp] theorem State.resetBlock_nrows (s : State) : s.resetBlock.nrows = State.reset.nrows := rfl
@[simp] theorem State.resetBlock_cur (s : State) : s.resetBlock.cur = State.reset.cur := rfl
@[simp] theorem State.resetBlock_ref (s : State) : s.resetBlock.ref = State.reset.ref := rfl
@[simp] theorem State.resetBlock_code (s : State) : s.resetBlock.code = State.reset.code := rfl
@[simp] theorem State.resetBlock_pix (s : State) : s.resetBlock.pix = State.reset.pix := rfl
@[simp] theorem State.resetBlock_hphase (s : State) : s.resetBlock.hphase = State.reset.hphase := rfl
@[simp] theorem State.resetBlock_host (s : State) : s.resetBlock.host = s.host := rfl
@[simp] theorem State.resetBlock_hostData (s : State) : s.resetBlock.hostData = s.hostData := rfl
@[simp] theorem State.resetBlock_params (s : State) : s.resetBlock.params = s.params := rfl
@[simp] theorem State.resetBlock_freeCount (s : State) : s.resetBlock.freeCount = s.freeCount := rfl

/-! ### The two coders' starts of a row -/

theorem State.beginRow_oneD (s : State) (h : s.rowKind = .oneD) :
    s.beginRow =
      { s with fstate := .decodingRow, hphase := .none, color := .white, col := 0, runacc := 0 } := by
  simp [State.beginRow, h]

theorem State.beginRow_twoD (s : State) (h : s.rowKind = .twoD) :
    s.beginRow = { s with fstate := .decodingRow, hphase := .none, color := .white, col := 0, a0 := -1 } := by
  simp [State.beginRow, h]

/-! ### Memories by name -/

@[simp] theorem State.mem_code (s : State) : s.mem .code = s.code := rfl
@[simp] theorem State.mem_pix (s : State) : s.mem .pix = s.pix := rfl
@[simp] theorem State.writeMem_code (s : State) (a : Nat) (b : Byte) :
    s.writeMem .code a b = { s with code := s.code.write a b } := rfl
@[simp] theorem State.writeMem_pix (s : State) (a : Nat) (b : Byte) :
    s.writeMem .pix a b = { s with pix := s.pix.write a b } := rfl

end Sys2Proof.Machine
end

