-- ==== Sys2Proof/Laws/Ops.lean ====
section
/-! SUPPORT. One lemma for each shared operation of the machine: everything it can answer. -/

namespace Sys2Proof.Machine

/-! ### Which operation a codeword's meaning is -/

/-- A run code's meaning, by what the codeword stands for. -/
theorem exec_run (i : Instr) (s : State) :
    exec i s =
      match i.operand with
      | .terminal c _ => s.terminalCode c i
      | .makeup c _ => s.makeupCode c i
      | .shared _ => s.sharedMakeupCode i
      | .pass => s.controlCode .p fun t => t.passAction 4
      | .horizontal => s.controlCode .h fun t => t.horizontalAction 3
      | .vertical d => s.verticalCode i d
      | .eol none => execEOL s
      | .eol (some false) => execEOL0 s
      | .eol (some true) => execEOL1 s := by
  cases i <;> rfl

/-! ### Contexts -/

theorem State.inContext_next {s t : State} {c : Context} {r : Result} (h : s.inContext c r = .next t) :
    s.context = some c ∧ r = .next t := by
  unfold State.inContext at h
  split at h
  · exact ⟨by assumption, h⟩
  · cases h

theorem State.inContext_of {s : State} {c : Context} (h : s.context = some c) (r : Result) :
    s.inContext c r = r := by simp [State.inContext, h]

theorem State.context_sync {s : State} {set : SyncSet} :
    s.context = some (.sync set) ↔
      s.busy = true ∧ s.dirl = .decode ∧ s.fstate = .awaitingSync ∧ set = syncSet s.cfgK s.rowidx := by
  unfold State.context
  constructor
  · intro h
    split at h
    · rename_i hb hd hf; exact ⟨hb, hd, hf, by simpa using h.symm⟩
    · split at h <;> (cases hc : s.color <;> simp_all [Context.ofColour])
    · cases h
  · rintro ⟨hb, hd, hf, rfl⟩; simp [hb, hd, hf]

theorem State.context_ctrl2d {s : State} :
    s.context = some .ctrl2d ↔
      s.busy = true ∧ s.dirl = .decode ∧ s.fstate = .decodingRow ∧ s.hphase = .none ∧ s.rowKind = .twoD := by
  unfold State.context
  constructor
  · intro h
    split at h
    · cases h
    · rename_i hb hd hf
      split at h
      · rename_i hh hk; exact ⟨hb, hd, hf, hh, hk⟩
      · cases hc : s.color <;> simp [hc, Context.ofColour] at h
    · cases h
  · rintro ⟨hb, hd, hf, hh, hk⟩; simp [hb, hd, hf, hh, hk]

theorem State.context_ofColour {s : State} {c : Colour} :
    s.context = some (Context.ofColour c) ↔
      s.busy = true ∧ s.dirl = .decode ∧ s.fstate = .decodingRow ∧ s.color = c ∧
        (s.hphase = .none → s.rowKind = .oneD) := by
  unfold State.context
  constructor
  · intro h
    split at h
    · cases c <;> simp [Context.ofColour] at h
    · rename_i hb hd hf
      split at h
      · cases c <;> simp [Context.ofColour] at h
      · rename_i hn
        refine ⟨hb, hd, hf, ?_, fun hh => ?_⟩
        · cases hc : s.color <;> cases c <;> simp_all [Context.ofColour]
        · cases hk : s.rowKind with
          | oneD => rfl
          | twoD => exact (hn hh hk).elim
    · cases h
  · rintro ⟨hb, hd, hf, hc, hh⟩
    simp only [hb, hd, hf]
    split
    · rename_i h1 h2; simp [hh h1] at h2
    · rw [hc]

/-! ### Run codes -/

/-- Everything the checks of a run code can answer; none of the three outcomes is a stop. -/
theorem State.runCode_cases (s : State) (i : Instr) (act : State → State) :
    (s.genuine < (encode i).length ∧ s.runCode i act = .next (s.raise .bufferExhausted s.bitpos)) ∨
    ((encode i).length ≤ s.genuine ∧ s.columns < s.col + s.runacc + i.runLength ∧
      s.runCode i act = .next (s.raise .runOutOfRange s.bitpos)) ∨
    ((encode i).length ≤ s.genuine ∧ s.col + s.runacc + i.runLength ≤ s.columns ∧
      s.runCode i act = .next (act (s.advance (encode i).length))) := by
  unfold State.runCode
  split
  · exact .inl ⟨by assumption, rfl⟩
  · split
    · exact .inr (.inl ⟨by omega, by assumption, rfl⟩)
    · exact .inr (.inr ⟨by omega, by omega, rfl⟩)

/-- The terminal action in a 1D row (R403, R404). -/
theorem State.terminalAction_none (s : State) (r : Nat) (h : s.hphase = .none) :
    s.terminalAction r =
      { s with
        runacc := 0, cur := s.cur.fill s.col (s.col + (s.runacc + r)) s.color, col := s.col + (s.runacc + r)
        color := s.color.opp
        fstate := if s.columns ≤ s.col + (s.runacc + r) then .rowComplete else s.fstate } := by
  simp only [State.terminalAction, State.afterRun, State.drawRun, h]
  unfold State.endRowIf
  by_cases hc : s.columns ≤ s.col + (s.runacc + r)
  · rw [if_pos hc, if_pos (by simpa [State.columns] using hc)]
  · rw [if_neg hc, if_neg (by simpa [State.columns] using hc)]

/-- The terminal action of the first run of a horizontal pair (R431). -/
theorem State.terminalAction_first (s : State) (r : Nat) (h : s.hphase = .first) :
    s.terminalAction r =
      { s with
        runacc := 0, cur := s.cur.fill s.col (s.col + (s.runacc + r)) s.color, col := s.col + (s.runacc + r)
        color := s.color.opp, hphase := .second } := by
  simp only [State.terminalAction, State.afterRun, State.drawRun, h]

/-- The terminal action of the second run of a horizontal pair (R431, R440). -/
theorem State.terminalAction_second (s : State) (r : Nat) (h : s.hphase = .second) :
    s.terminalAction r =
      { s with
        runacc := 0, cur := s.cur.fill s.col (s.col + (s.runacc + r)) s.color, col := s.col + (s.runacc + r)
        color := s.color.opp, hphase := .none, a0 := (s.col + (s.runacc + r) : Nat)
        fstate := if s.columns ≤ s.col + (s.runacc + r) then .rowComplete else s.fstate } := by
  simp only [State.terminalAction, State.afterRun, State.drawRun, h]
  unfold State.endRowIf
  by_cases hc : s.columns ≤ s.col + (s.runacc + r)
  · rw [if_pos hc, if_pos (by simpa [State.columns] using hc)]
  · rw [if_neg hc, if_neg (by simpa [State.columns] using hc)]

/-- Everything a terminal code can answer with a next state. -/
theorem State.terminalCode_next {s t : State} {c : Colour} {i : Instr} (h : s.terminalCode c i = .next t) :
    s.context = some (Context.ofColour c) ∧
      (t = s.raise .bufferExhausted s.bitpos ∨ t = s.raise .runOutOfRange s.bitpos ∨
       (encode i).length ≤ s.genuine ∧ s.col + s.runacc + i.runLength ≤ s.columns ∧
         t = (s.advance (encode i).length).terminalAction i.runLength) := by
  obtain ⟨hc, hr⟩ := State.inContext_next h
  refine ⟨hc, ?_⟩
  obtain ⟨-, he⟩ | ⟨-, -, he⟩ | ⟨h1, h2, he⟩ := s.runCode_cases i fun t => t.terminalAction i.runLength
  · rw [he] at hr; cases hr; exact .inl rfl
  · rw [he] at hr; cases hr; exact .inr (.inl rfl)
  · rw [he] at hr; cases hr; exact .inr (.inr ⟨h1, h2, rfl⟩)

/-- Everything a makeup code can answer with a next state. -/
theorem State.makeupCode_next {s t : State} {c : Colour} {i : Instr} (h : s.makeupCode c i = .next t) :
    s.context = some (Context.ofColour c) ∧
      (t = s.raise .bufferExhausted s.bitpos ∨ t = s.raise .runOutOfRange s.bitpos ∨
       (encode i).length ≤ s.genuine ∧ s.col + s.runacc + i.runLength ≤ s.columns ∧
         t = (s.advance (encode i).length).makeupAction i.runLength) := by
  obtain ⟨hc, hr⟩ := State.inContext_next h
  refine ⟨hc, ?_⟩
  obtain ⟨-, he⟩ | ⟨-, -, he⟩ | ⟨h1, h2, he⟩ := s.runCode_cases i fun t => t.makeupAction i.runLength
  · rw [he] at hr; cases hr; exact .inl rfl
  · rw [he] at hr; cases hr; exact .inr (.inl rfl)
  · rw [he] at hr; cases hr; exact .inr (.inr ⟨h1, h2, rfl⟩)

/-! ### Control codes -/

/-- Everything a control code can answer with a next state. -/
theorem State.controlCode_next {s t : State} {i : Instr} {act : State → State}
    (h : s.controlCode i act = .next t) :
    s.context = some .ctrl2d ∧
      (t = s.raise .bufferExhausted s.bitpos ∨
       (encode i).length ≤ s.genuine ∧ s.columns ≤ s.ref.length ∧ t = act s) := by
  obtain ⟨hc, hr⟩ := State.inContext_next h
  refine ⟨hc, ?_⟩
  split at hr
  · cases hr; exact .inl rfl
  · split at hr
    · cases hr
    · cases hr; exact .inr ⟨by omega, by omega, rfl⟩

/-- A control code whose bits are all genuine, over a whole reference line, acts. -/
theorem State.controlCode_of {s : State} {i : Instr} (act : State → State) (hc : s.context = some .ctrl2d)
    (hg : (encode i).length ≤ s.genuine) (hr : s.columns ≤ s.ref.length) :
    s.controlCode i act = .next (act s) := by
  unfold State.controlCode
  rw [State.inContext_of hc, if_neg (by omega), if_neg (by omega)]

/-- Pass mode as one update (R430). -/
theorem State.passAction_eq (s : State) (n : Nat) :
    s.passAction n =
      { s with
        bitpos := s.bitpos + n, cur := s.cur.fill s.col s.b2 s.color, a0 := (s.b2 : Nat), col := s.b2
        fstate := if s.columns ≤ s.b2 then .rowComplete else s.fstate } := by
  unfold State.passAction State.endRowIf
  split <;> simp_all [State.drawTo, State.advance]

/-- Vertical mode as one update, or the range error (R441). -/
theorem State.verticalAction_eq (s : State) (n : Nat) (d : Int) :
    s.verticalAction n d =
      if (s.b1 : Int) + d ≤ s.a0 ∨ (s.columns : Int) < (s.b1 : Int) + d then s.raise .runOutOfRange s.bitpos
      else
        { s with
          bitpos := s.bitpos + n, cur := s.cur.fill s.col ((s.b1 : Int) + d).toNat s.color
          a0 := (((s.b1 : Int) + d).toNat : Nat), col := ((s.b1 : Int) + d).toNat, color := s.color.opp
          fstate := if (s.columns : Int) ≤ (s.b1 : Int) + d then .rowComplete else s.fstate } := by
  unfold State.verticalAction State.endRowIf
  split
  · rfl
  · split <;> simp_all [State.drawTo, State.advance]

/-! ### Sync codes -/

/-- Everything a terminator unit at a row boundary can answer (R480). -/
theorem State.marker_cases (s : State) (u : Instr) (o : State) :
    (countMarks s.code s.codeBytes (encode u) (termCount s.cfgK - 1) (s.bitpos + (encode u).length) = none ∧
      s.marker u o = .refused (.unwrittenByte .code)) ∨
    ∃ k, countMarks s.code s.codeBytes (encode u) (termCount s.cfgK - 1) (s.bitpos + (encode u).length) = some k ∧
      ((k + 1 = termCount s.cfgK ∧
          s.marker u o = .next (s.advance (termCount s.cfgK * (encode u).length)).finish) ∨
       (k + 1 ≠ termCount s.cfgK ∧ tolerance s.cfgK < k + 1 ∧
          s.marker u o = .next (s.raise (corruptTerminator s.cfgK) s.bitpos)) ∨
       (k + 1 ≠ termCount s.cfgK ∧ k + 1 ≤ tolerance s.cfgK ∧ s.marker u o = .next o)) := by
  unfold State.marker
  cases hk : countMarks s.code s.codeBytes (encode u) (termCount s.cfgK - 1) (s.bitpos + (encode u).length) with
  | none => exact .inl ⟨rfl, rfl⟩
  | some k =>
    refine .inr ⟨k, rfl, ?_⟩
    dsimp only
    split
    · exact .inl ⟨by assumption, rfl⟩
    · split
      · exact .inr (.inl ⟨by assumption, by assumption, rfl⟩)
      · exact .inr (.inr ⟨by assumption, by omega, rfl⟩)

/-! ### Emission -/

/-- Emitting a codeword changes the stream and the cursor alone. -/
theorem State.emit_eq_some {s t : State} {i : Instr} :
    s.emit i = some t ↔ ∃ m, addCode s.code s.bitpos (encode i) = some m ∧
      t = { s with code := m, bitpos := s.bitpos + (encode i).length } := by
  simp [State.emit, eq_comm]

theorem State.emitAll_cons (s : State) (i : Instr) (is : List Instr) :
    s.emitAll (i :: is) = (s.emit i).bind fun t => t.emitAll is := by
  simp only [State.emitAll]
  cases s.emit i <;> rfl

theorem State.emitAll_append (is js : List Instr) (s : State) :
    s.emitAll (is ++ js) = (s.emitAll is).bind fun t => t.emitAll js := by
  induction is generalizing s with
  | nil => rfl
  | cons i is ih =>
    rw [List.cons_append, State.emitAll_cons, State.emitAll_cons]
    cases s.emit i with
    | none => rfl
    | some t => exact ih t

/-- Emitting codewords changes the stream and the cursor alone; the cursor moves by their lengths. -/
theorem State.emitAll_eq_some {is : List Instr} {s t : State} (h : s.emitAll is = some t) :
    t = { s with code := t.code, bitpos := s.bitpos + (is.map fun i => (encode i).length).sum } := by
  induction is generalizing s with
  | nil => simp only [State.emitAll, Option.some.injEq] at h; subst h; rfl
  | cons i is ih =>
    rw [State.emitAll_cons] at h
    obtain ⟨u, hu, ht⟩ := Option.bind_eq_some_iff.mp h
    obtain ⟨m, -, rfl⟩ := State.emit_eq_some.mp hu
    have := ih ht
    rw [this]
    simp [Nat.add_assoc]

/-- Emission keeps the stream in canonical form. -/
theorem State.emitAll_wf {is : List Instr} {s t : State} (h : s.emitAll is = some t) (hw : s.code.wf = true) :
    t.code.wf = true := by
  induction is generalizing s with
  | nil => simp only [State.emitAll, Option.some.injEq] at h; subst h; exact hw
  | cons i is ih =>
    rw [State.emitAll_cons] at h
    obtain ⟨u, hu, ht⟩ := Option.bind_eq_some_iff.mp h
    obtain ⟨m, hm, rfl⟩ := State.emit_eq_some.mp hu
    exact ih ht (addCode_wf hw hm)

/-! ### Steps -/

/-- Everything a fetch in a context can answer. -/
theorem State.decodeStep_cases (s : State) (c : Context) :
    (fetchNextCode s.code s.codeBytes s.bitpos = none ∧ s.decodeStep c = .refused (.unwrittenByte .code)) ∨
    ∃ f, fetchNextCode s.code s.codeBytes s.bitpos = some f ∧
      ((∃ i, decode c f.window f.avail = .instr i ∧ s.decodeStep c = exec i s) ∨
       (decode c f.window f.avail = .reject .noMarker ∧ s.decodeStep c = .next s.noPrefix) ∨
       (∃ why, why ≠ .noMarker ∧ decode c f.window f.avail = .reject why ∧
          s.decodeStep c = .next (s.raise (noMatchError why f.avail) s.bitpos))) := by
  unfold State.decodeStep
  cases hf : fetchNextCode s.code s.codeBytes s.bitpos with
  | none => exact .inl ⟨rfl, rfl⟩
  | some f =>
    refine .inr ⟨f, rfl, ?_⟩
    dsimp only
    split
    · rename_i i hd; exact .inl ⟨i, hd, rfl⟩
    · rename_i hd; exact .inr (.inl ⟨hd, rfl⟩)
    · rename_i why hn hd; exact .inr (.inr ⟨why, fun h => hn (h ▸ rfl), hd, rfl⟩)

/-- An idle engine does nothing (70_reset_and_hazards.md R580). -/
theorem State.engineStep_idle (s : State) (h : s.busy = false) : s.engineStep = .next s := by
  simp [State.engineStep, h]

theorem State.engineStep_decode (s : State) (h : s.busy = true) (hd : s.dirl = .decode) :
    s.engineStep = s.decodeEngineStep := by simp [State.engineStep, h, hd]

theorem State.engineStep_encode (s : State) (h : s.busy = true) (hd : s.dirl = .encode) :
    s.engineStep = s.encodeEngineStep := by simp [State.engineStep, h, hd]

/-- A step of a decode call in a row boundary that is not the end of the stream, or inside a row, is a fetch in the
context of the state. -/
theorem State.decodeEngineStep_of_context {s : State} {c : Context} (h : s.context = some c)
    (hb : s.fstate = .awaitingSync → s.bitpos < 8 * s.codeBytes) : s.decodeEngineStep = s.decodeStep c := by
  unfold State.decodeEngineStep
  cases hf : s.fstate with
  | awaitingSync =>
    have : c = .sync (syncSet s.cfgK s.rowidx) := by
      unfold State.context at h
      split at h <;> simp_all
    rw [if_neg (by have := hb hf; omega), this]
  | decodingRow => simp [h]
  | idle => unfold State.context at h; split at h <;> simp_all
  | rowComplete => unfold State.context at h; split at h <;> simp_all
  | terminated => unfold State.context at h; split at h <;> simp_all

/-- Without a move of the host left the step is the engine's. -/
theorem State.machineStep_engine (s : State) (h : s.host = []) : s.machineStep = s.engineStep := by
  simp [State.machineStep, h]

/-- An outcome of an encode step is a next state exactly when the bytes could be merged and lie inside `CODE`. -/
theorem State.emitted_eq_next {o : Option State} {t : State} :
    State.emitted o = .next t ↔ o = some t ∧ fitsIn t.params.codeBytes ((t.bitpos + 7) / 8) = true := by
  unfold State.emitted
  cases o with
  | none => simp
  | some u =>
    by_cases h : fitsIn u.params.codeBytes ((u.bitpos + 7) / 8) = true
    · simp only [h, if_true, Host.Outcome.next.injEq, Option.some.injEq]
      exact ⟨fun e => ⟨e, e ▸ h⟩, fun e => e.1⟩
    · simp only [h, Option.some.injEq]
      exact ⟨fun e => by simp at e, fun e => (h (e.1 ▸ e.2)).elim⟩

end Sys2Proof.Machine
end

