-- ==== Sys2Proof/Laws/Engine.lean ====
section
/-! SUPPORT. One lemma for each frame step and each host operation: everything it can answer with a next state. -/

namespace Sys2Proof.Machine

/-! ### Frame steps of a decode call -/

/-- R482 with R483 (b): the row is stored and closed, and the call ends or the next row boundary comes. -/
theorem State.decodeRowComplete_next {s t : State} (h : s.decodeRowComplete = .next t) :
    s.columns ≤ s.cur.length ∧ fitsIn s.params.pixBytes ((s.rowidx + 1) * s.columns) = true ∧
      (((s.storeRow s.rowidx).closeRow.rowLimitReached = true ∧ t = (s.storeRow s.rowidx).closeRow.finish) ∨
       ((s.storeRow s.rowidx).closeRow.rowLimitReached = false ∧
         t = { (s.storeRow s.rowidx).closeRow with fstate := .awaitingSync })) := by
  unfold State.decodeRowComplete at h
  split at h
  · cases h
  · split at h
    · rename_i h1 h2
      refine ⟨by omega, h2, ?_⟩
      cases hl : (s.storeRow s.rowidx).closeRow.rowLimitReached with
      | true => exact .inl ⟨rfl, by simpa [hl] using h.symm⟩
      | false => exact .inr ⟨rfl, by simpa [hl] using h.symm⟩
    · cases h

/-- A step of a decode call, by the frame state it starts from. -/
theorem State.decodeEngineStep_next {s t : State} (h : s.decodeEngineStep = .next t) :
    (s.fstate = .awaitingSync ∧ 8 * s.codeBytes ≤ s.bitpos ∧ t = s.finish) ∨
    (s.fstate = .awaitingSync ∧ s.bitpos < 8 * s.codeBytes ∧
      s.decodeStep (.sync (syncSet s.cfgK s.rowidx)) = .next t) ∨
    (s.fstate = .decodingRow ∧ ∃ c, s.context = some c ∧ s.decodeStep c = .next t) ∨
    (s.fstate = .rowComplete ∧ s.decodeRowComplete = .next t) := by
  unfold State.decodeEngineStep at h
  split at h
  · rename_i hf
    split at h
    · cases h; exact .inl ⟨hf, by assumption, rfl⟩
    · exact .inr (.inl ⟨hf, by omega, h⟩)
  · rename_i hf
    split at h
    · rename_i c hc; exact .inr (.inr (.inl ⟨hf, c, hc, h⟩))
    · cases h
  · rename_i hf; exact .inr (.inr (.inr ⟨hf, h⟩))
  · cases h
  · cases h

/-! ### Frame steps of an encode call -/

/-- R485 to R489: the end of the call, or the prefix and the load of a row. -/
theorem State.encodeAwaitingSync_next {s t : State} (h : s.encodeAwaitingSync = .next t) :
    (s.rowidx = s.nrows ∧ ∃ u, s.emitTerminator = some u ∧ t = u.finishEncode) ∨
    (s.rowidx ≠ s.nrows ∧ ∃ bs row u, s.rowBytes s.rowidx = some bs ∧ toColours s.blackIs1 bs = some row ∧
      s.emitPrefix = some u ∧ t = { u with cur := u.cur.overwrite row, fstate := .decodingRow }) := by
  unfold State.encodeAwaitingSync at h
  split at h
  · rename_i hr
    obtain ⟨ho, -⟩ := State.emitted_eq_next.mp h
    obtain ⟨u, hu, rfl⟩ := Option.map_eq_some_iff.mp ho
    exact .inl ⟨hr, u, hu, rfl⟩
  · rename_i hr
    refine .inr ⟨hr, ?_⟩
    split at h
    · cases h
    · rename_i bs hb
      split at h
      · cases h
      · rename_i row hrow
        obtain ⟨ho, -⟩ := State.emitted_eq_next.mp h
        obtain ⟨u, hu, rfl⟩ := Option.map_eq_some_iff.mp ho
        exact ⟨bs, row, u, hb, hrow, hu, rfl⟩

/-- R486: the row is encoded by its kind. -/
theorem State.encodeDecodingRow_next {s t : State} (h : s.encodeDecodingRow = .next t) :
    s.columns ≤ s.cur.length ∧
      ((s.rowKind = .oneD ∧ ∃ u, s.encodeRow1D = some u ∧ t = { u with fstate := .rowComplete }) ∨
       (s.rowKind = .twoD ∧ s.columns ≤ s.ref.length ∧
         ∃ u, s.encodeRow2D = some u ∧ t = { u with fstate := .rowComplete })) := by
  unfold State.encodeDecodingRow at h
  split at h
  · cases h
  · refine ⟨by omega, ?_⟩
    split at h
    · rename_i hk
      obtain ⟨ho, -⟩ := State.emitted_eq_next.mp h
      obtain ⟨u, hu, rfl⟩ := Option.map_eq_some_iff.mp ho
      exact .inl ⟨hk, u, hu, rfl⟩
    · rename_i hk
      split at h
      · cases h
      · obtain ⟨ho, -⟩ := State.emitted_eq_next.mp h
        obtain ⟨u, hu, rfl⟩ := Option.map_eq_some_iff.mp ho
        exact .inr ⟨hk, by omega, u, hu, rfl⟩

/-- R487. -/
theorem State.encodeRowComplete_next {s t : State} (h : s.encodeRowComplete = .next t) :
    s.columns ≤ s.cur.length ∧ t = { s.closeRow with fstate := .awaitingSync } := by
  unfold State.encodeRowComplete at h
  split at h
  · cases h
  · cases h; exact ⟨by omega, rfl⟩

/-- A step of an encode call, by the frame state it starts from. -/
theorem State.encodeEngineStep_next {s t : State} (h : s.encodeEngineStep = .next t) :
    (s.fstate = .awaitingSync ∧ s.encodeAwaitingSync = .next t) ∨
    (s.fstate = .decodingRow ∧ s.encodeDecodingRow = .next t) ∨
    (s.fstate = .rowComplete ∧ s.encodeRowComplete = .next t) := by
  unfold State.encodeEngineStep at h
  split at h
  · exact .inl ⟨by assumption, h⟩
  · exact .inr (.inl ⟨by assumption, h⟩)
  · exact .inr (.inr ⟨by assumption, h⟩)
  · cases h
  · cases h

/-! ### The engine -/

/-- A step of the engine: nothing, or a step of the call in its direction. -/
theorem State.engineStep_next {s t : State} (h : s.engineStep = .next t) :
    (s.busy = false ∧ t = s) ∨ (s.busy = true ∧ s.dirl = .decode ∧ s.decodeEngineStep = .next t) ∨
    (s.busy = true ∧ s.dirl = .encode ∧ s.encodeEngineStep = .next t) := by
  unfold State.engineStep at h
  split at h
  · rename_i hb
    split at h
    · exact .inr (.inl ⟨hb, by assumption, h⟩)
    · exact .inr (.inr ⟨hb, by assumption, h⟩)
  · rename_i hb
    cases h
    exact .inl ⟨by simpa using hb, rfl⟩

/-! ### The host -/

/-- An admitted START (R521, R522). -/
theorem State.start_next {s t : State} {d : Dir} (h : s.start d = .next t) :
    s.notAdmitted d = none ∧
      t = (match d with
        | .encode => s.startEncode
        | .decode => s.startDecode) := by
  unfold State.start at h
  split at h
  · cases h
  · rename_i hn
    refine ⟨hn, ?_⟩
    cases d <;> (cases h; rfl)

/-- What an admitted START has been checked for (R523). -/
theorem State.notAdmitted_eq_none {s : State} {d : Dir} :
    s.notAdmitted d = none ↔
      s.busy = false ∧ 1 ≤ s.cfgColumns ∧ 0 ≤ s.cfgRows ∧ s.widthHolds = true ∧
        (match d with
          | .encode => s.bitmapReady = true ∧ s.outputFits = true
          | .decode => s.streamReady = true ∧ s.rowsFit = true) := by
  unfold State.notAdmitted
  cases d <;>
    (cases s.busy <;> by_cases hc : s.cfgColumns < 1 <;> by_cases hr : s.cfgRows < 0 <;>
      cases s.widthHolds <;> cases s.bitmapReady <;> cases s.outputFits <;> cases s.streamReady <;>
      cases s.rowsFit <;> simp [hc, hr] <;> omega)

/-- A write of `CTRL` (R27): nothing, or a START in the direction it names. -/
theorem State.writeCtrl_next {s t : State} {v : Int} (h : s.writeCtrl v = .next t) :
    t = s ∨ s.start .encode = .next t ∨ s.start .decode = .next t := by
  unfold State.writeCtrl at h
  split at h
  · split at h
    · exact .inr (.inr h)
    · exact .inr (.inl h)
  · cases h; exact .inl rfl

/-- An access while `BUSY = 1` (R526). -/
theorem State.hostAccess_busy {s t : State} {a : Access} (hb : s.busy = true) (h : s.hostAccess a = .next t) :
    a = .readReg 1 ∧ t = { s with hostData := s.statusWord } := by
  unfold State.hostAccess at h
  rw [if_pos hb] at h
  split at h
  · cases h; exact ⟨by assumption, rfl⟩
  · cases h

/-- An access while `BUSY = 0`: a read changes what the host holds; a write changes one register or one byte, or is an
admitted START. -/
theorem State.idleAccess_next {s t : State} {a : Access} (h : s.idleAccess a = .next t) :
    (∃ v, t = { s with hostData := v }) ∨ t = s ∨
    (∃ v, t = { s with cfgK := v }) ∨ (∃ v, t = { s with cfgFlags := v }) ∨ (∃ v, t = { s with cfgDamaged := v }) ∨
    (∃ v, t = { s with cfgColumns := v }) ∨ (∃ v, t = { s with cfgRows := v }) ∨ (∃ v, t = { s with codeLen := v }) ∨
    (∃ v, t = { s with pixRows := v }) ∨ (∃ m o b, t = s.writeMem m o b) ∨ (∃ d, s.start d = .next t) := by
  cases a with
  | readReg n =>
    simp only [State.idleAccess] at h
    split at h
    · cases h; exact .inl ⟨_, rfl⟩
    · cases h
  | writeReg n v =>
    simp only [State.idleAccess] at h
    unfold State.writeReg at h
    split at h
    · obtain h | h | h := State.writeCtrl_next h
      · exact .inr (.inl h)
      · exact .inr (.inr (.inr (.inr (.inr (.inr (.inr (.inr (.inr (.inr ⟨_, h⟩)))))))))
      · exact .inr (.inr (.inr (.inr (.inr (.inr (.inr (.inr (.inr (.inr ⟨_, h⟩)))))))))
    · cases h; exact .inr (.inl rfl)
    · cases h; exact .inr (.inr (.inl ⟨_, rfl⟩))
    · cases h; exact .inr (.inr (.inr (.inl ⟨_, rfl⟩)))
    · cases h; exact .inr (.inr (.inr (.inr (.inl ⟨_, rfl⟩))))
    · cases h; exact .inr (.inr (.inr (.inr (.inr (.inl ⟨_, rfl⟩)))))
    · cases h; exact .inr (.inr (.inr (.inr (.inr (.inr (.inl ⟨_, rfl⟩))))))
    · cases h; exact .inr (.inr (.inr (.inr (.inr (.inr (.inr (.inl ⟨_, rfl⟩)))))))
    · cases h; exact .inr (.inr (.inr (.inr (.inr (.inr (.inr (.inr (.inl ⟨_, rfl⟩))))))))
    · cases h; exact .inr (.inl rfl)
    · cases h
  | readMem m o =>
    simp only [State.idleAccess] at h
    split at h
    · split at h
      · cases h; exact .inl ⟨_, rfl⟩
      · cases h
    · cases h
  | writeMem m o b =>
    simp only [State.idleAccess] at h
    split at h
    · cases h; exact .inr (.inr (.inr (.inr (.inr (.inr (.inr (.inr (.inr (.inl ⟨m, o, b, rfl⟩)))))))))
    · cases h

/-- One step of the machine: the engine's, an access, the end of a wait, or a reset. -/
theorem State.machineStep_next {s t : State} (h : s.machineStep = .next t) :
    (s.host = [] ∧ s.engineStep = .next t) ∨
    ∃ m rest, s.host = m :: rest ∧
      ((m = .idle ∧ { s with host := rest }.engineStep = .next t) ∨
       (∃ a, m = .access a ∧ { s with host := rest }.hostAccess a = .next t) ∨
       (m = .awaitDone ∧ s.busy = true ∧ s.engineStep = .next t) ∨
       (m = .awaitDone ∧ s.busy = false ∧ t = { s with host := rest, hostData := s.statusWord }) ∨
       (m = .reset ∧ t = { s with host := rest }.resetBlock)) := by
  unfold State.machineStep at h
  split at h
  · exact .inl ⟨by assumption, h⟩
  · rename_i m rest hm
    refine .inr ⟨m, rest, hm, ?_⟩
    unfold State.hostMove at h
    split at h
    · exact .inr (.inl ⟨_, rfl, h⟩)
    · exact .inl ⟨rfl, h⟩
    · split at h
      · exact .inr (.inr (.inl ⟨rfl, by assumption, h⟩))
      · rename_i hb
        cases h
        exact .inr (.inr (.inr (.inl ⟨rfl, by simpa using hb, rfl⟩)))
    · cases h; exact .inr (.inr (.inr (.inr ⟨rfl, rfl⟩)))

end Sys2Proof.Machine
end

