-- ==== Sys2Proof/Laws/PerInstr.lean ====
section
/-! SUPPORT. Per-instruction laws: every row of the opcode table is well formed. -/

namespace Sys2Proof.Laws

/-- The codeword's Code, operand and length agree with R10, R90, R97, R98. -/
def TableRowWellFormed.Statement (i : Instr) : Prop := i.wf = true

theorem TableRowWellFormed.w0 : TableRowWellFormed.Statement .w0 := by unfold TableRowWellFormed.Statement; decide
theorem TableRowWellFormed.w1 : TableRowWellFormed.Statement .w1 := by unfold TableRowWellFormed.Statement; decide
theorem TableRowWellFormed.w2 : TableRowWellFormed.Statement .w2 := by unfold TableRowWellFormed.Statement; decide
theorem TableRowWellFormed.w3 : TableRowWellFormed.Statement .w3 := by unfold TableRowWellFormed.Statement; decide
theorem TableRowWellFormed.w4 : TableRowWellFormed.Statement .w4 := by unfold TableRowWellFormed.Statement; decide
theorem TableRowWellFormed.w5 : TableRowWellFormed.Statement .w5 := by unfold TableRowWellFormed.Statement; decide
theorem TableRowWellFormed.w6 : TableRowWellFormed.Statement .w6 := by unfold TableRowWellFormed.Statement; decide
theorem TableRowWellFormed.w7 : TableRowWellFormed.Statement .w7 := by unfold TableRowWellFormed.Statement; decide
theorem TableRowWellFormed.w8 : TableRowWellFormed.Statement .w8 := by unfold TableRowWellFormed.Statement; decide
theorem TableRowWellFormed.w9 : TableRowWellFormed.Statement .w9 := by unfold TableRowWellFormed.Statement; decide
theorem TableRowWellFormed.w10 : TableRowWellFormed.Statement .w10 := by unfold TableRowWellFormed.Statement; decide
theorem TableRowWellFormed.w11 : TableRowWellFormed.Statement .w11 := by unfold TableRowWellFormed.Statement; decide
theorem TableRowWellFormed.w12 : TableRowWellFormed.Statement .w12 := by unfold TableRowWellFormed.Statement; decide
theorem TableRowWellFormed.w13 : TableRowWellFormed.Statement .w13 := by unfold TableRowWellFormed.Statement; decide
theorem TableRowWellFormed.w14 : TableRowWellFormed.Statement .w14 := by unfold TableRowWellFormed.Statement; decide
theorem TableRowWellFormed.w15 : TableRowWellFormed.Statement .w15 := by unfold TableRowWellFormed.Statement; decide
theorem TableRowWellFormed.w16 : TableRowWellFormed.Statement .w16 := by unfold TableRowWellFormed.Statement; decide
theorem TableRowWellFormed.w17 : TableRowWellFormed.Statement .w17 := by unfold TableRowWellFormed.Statement; decide
theorem TableRowWellFormed.w18 : TableRowWellFormed.Statement .w18 := by unfold TableRowWellFormed.Statement; decide
theorem TableRowWellFormed.w19 : TableRowWellFormed.Statement .w19 := by unfold TableRowWellFormed.Statement; decide
theorem TableRowWellFormed.w20 : TableRowWellFormed.Statement .w20 := by unfold TableRowWellFormed.Statement; decide
theorem TableRowWellFormed.w21 : TableRowWellFormed.Statement .w21 := by unfold TableRowWellFormed.Statement; decide
theorem TableRowWellFormed.w22 : TableRowWellFormed.Statement .w22 := by unfold TableRowWellFormed.Statement; decide
theorem TableRowWellFormed.w23 : TableRowWellFormed.Statement .w23 := by unfold TableRowWellFormed.Statement; decide
theorem TableRowWellFormed.w24 : TableRowWellFormed.Statement .w24 := by unfold TableRowWellFormed.Statement; decide
theorem TableRowWellFormed.w25 : TableRowWellFormed.Statement .w25 := by unfold TableRowWellFormed.Statement; decide
theorem TableRowWellFormed.w26 : TableRowWellFormed.Statement .w26 := by unfold TableRowWellFormed.Statement; decide
theorem TableRowWellFormed.w27 : TableRowWellFormed.Statement .w27 := by unfold TableRowWellFormed.Statement; decide
theorem TableRowWellFormed.w28 : TableRowWellFormed.Statement .w28 := by unfold TableRowWellFormed.Statement; decide
theorem TableRowWellFormed.w29 : TableRowWellFormed.Statement .w29 := by unfold TableRowWellFormed.Statement; decide
theorem TableRowWellFormed.w30 : TableRowWellFormed.Statement .w30 := by unfold TableRowWellFormed.Statement; decide
theorem TableRowWellFormed.w31 : TableRowWellFormed.Statement .w31 := by unfold TableRowWellFormed.Statement; decide
theorem TableRowWellFormed.w32 : TableRowWellFormed.Statement .w32 := by unfold TableRowWellFormed.Statement; decide
theorem TableRowWellFormed.w33 : TableRowWellFormed.Statement .w33 := by unfold TableRowWellFormed.Statement; decide
theorem TableRowWellFormed.w34 : TableRowWellFormed.Statement .w34 := by unfold TableRowWellFormed.Statement; decide
theorem TableRowWellFormed.w35 : TableRowWellFormed.Statement .w35 := by unfold TableRowWellFormed.Statement; decide
theorem TableRowWellFormed.w36 : TableRowWellFormed.Statement .w36 := by unfold TableRowWellFormed.Statement; decide
theorem TableRowWellFormed.w37 : TableRowWellFormed.Statement .w37 := by unfold TableRowWellFormed.Statement; decide
theorem TableRowWellFormed.w38 : TableRowWellFormed.Statement .w38 := by unfold TableRowWellFormed.Statement; decide
theorem TableRowWellFormed.w39 : TableRowWellFormed.Statement .w39 := by unfold TableRowWellFormed.Statement; decide
theorem TableRowWellFormed.w40 : TableRowWellFormed.Statement .w40 := by unfold TableRowWellFormed.Statement; decide
theorem TableRowWellFormed.w41 : TableRowWellFormed.Statement .w41 := by unfold TableRowWellFormed.Statement; decide
theorem TableRowWellFormed.w42 : TableRowWellFormed.Statement .w42 := by unfold TableRowWellFormed.Statement; decide
theorem TableRowWellFormed.w43 : TableRowWellFormed.Statement .w43 := by unfold TableRowWellFormed.Statement; decide
theorem TableRowWellFormed.w44 : TableRowWellFormed.Statement .w44 := by unfold TableRowWellFormed.Statement; decide
theorem TableRowWellFormed.w45 : TableRowWellFormed.Statement .w45 := by unfold TableRowWellFormed.Statement; decide
theorem TableRowWellFormed.w46 : TableRowWellFormed.Statement .w46 := by unfold TableRowWellFormed.Statement; decide
theorem TableRowWellFormed.w47 : TableRowWellFormed.Statement .w47 := by unfold TableRowWellFormed.Statement; decide
theorem TableRowWellFormed.w48 : TableRowWellFormed.Statement .w48 := by unfold TableRowWellFormed.Statement; decide
theorem TableRowWellFormed.w49 : TableRowWellFormed.Statement .w49 := by unfold TableRowWellFormed.Statement; decide
theorem TableRowWellFormed.w50 : TableRowWellFormed.Statement .w50 := by unfold TableRowWellFormed.Statement; decide
theorem TableRowWellFormed.w51 : TableRowWellFormed.Statement .w51 := by unfold TableRowWellFormed.Statement; decide
theorem TableRowWellFormed.w52 : TableRowWellFormed.Statement .w52 := by unfold TableRowWellFormed.Statement; decide
theorem TableRowWellFormed.w53 : TableRowWellFormed.Statement .w53 := by unfold TableRowWellFormed.Statement; decide
theorem TableRowWellFormed.w54 : TableRowWellFormed.Statement .w54 := by unfold TableRowWellFormed.Statement; decide
theorem TableRowWellFormed.w55 : TableRowWellFormed.Statement .w55 := by unfold TableRowWellFormed.Statement; decide
theorem TableRowWellFormed.w56 : TableRowWellFormed.Statement .w56 := by unfold TableRowWellFormed.Statement; decide
theorem TableRowWellFormed.w57 : TableRowWellFormed.Statement .w57 := by unfold TableRowWellFormed.Statement; decide
theorem TableRowWellFormed.w58 : TableRowWellFormed.Statement .w58 := by unfold TableRowWellFormed.Statement; decide
theorem TableRowWellFormed.w59 : TableRowWellFormed.Statement .w59 := by unfold TableRowWellFormed.Statement; decide
theorem TableRowWellFormed.w60 : TableRowWellFormed.Statement .w60 := by unfold TableRowWellFormed.Statement; decide
theorem TableRowWellFormed.w61 : TableRowWellFormed.Statement .w61 := by unfold TableRowWellFormed.Statement; decide
theorem TableRowWellFormed.w62 : TableRowWellFormed.Statement .w62 := by unfold TableRowWellFormed.Statement; decide
theorem TableRowWellFormed.w63 : TableRowWellFormed.Statement .w63 := by unfold TableRowWellFormed.Statement; decide
theorem TableRowWellFormed.b0 : TableRowWellFormed.Statement .b0 := by unfold TableRowWellFormed.Statement; decide
theorem TableRowWellFormed.b1 : TableRowWellFormed.Statement .b1 := by unfold TableRowWellFormed.Statement; decide
theorem TableRowWellFormed.b2 : TableRowWellFormed.Statement .b2 := by unfold TableRowWellFormed.Statement; decide
theorem TableRowWellFormed.b3 : TableRowWellFormed.Statement .b3 := by unfold TableRowWellFormed.Statement; decide
theorem TableRowWellFormed.b4 : TableRowWellFormed.Statement .b4 := by unfold TableRowWellFormed.Statement; decide
theorem TableRowWellFormed.b5 : TableRowWellFormed.Statement .b5 := by unfold TableRowWellFormed.Statement; decide
theorem TableRowWellFormed.b6 : TableRowWellFormed.Statement .b6 := by unfold TableRowWellFormed.Statement; decide
theorem TableRowWellFormed.b7 : TableRowWellFormed.Statement .b7 := by unfold TableRowWellFormed.Statement; decide
theorem TableRowWellFormed.b8 : TableRowWellFormed.Statement .b8 := by unfold TableRowWellFormed.Statement; decide
theorem TableRowWellFormed.b9 : TableRowWellFormed.Statement .b9 := by unfold TableRowWellFormed.Statement; decide
theorem TableRowWellFormed.b10 : TableRowWellFormed.Statement .b10 := by unfold TableRowWellFormed.Statement; decide
theorem TableRowWellFormed.b11 : TableRowWellFormed.Statement .b11 := by unfold TableRowWellFormed.Statement; decide
theorem TableRowWellFormed.b12 : TableRowWellFormed.Statement .b12 := by unfold TableRowWellFormed.Statement; decide
theorem TableRowWellFormed.b13 : TableRowWellFormed.Statement .b13 := by unfold TableRowWellFormed.Statement; decide
theorem TableRowWellFormed.b14 : TableRowWellFormed.Statement .b14 := by unfold TableRowWellFormed.Statement; decide
theorem TableRowWellFormed.b15 : TableRowWellFormed.Statement .b15 := by unfold TableRowWellFormed.Statement; decide
theorem TableRowWellFormed.b16 : TableRowWellFormed.Statement .b16 := by unfold TableRowWellFormed.Statement; decide
theorem TableRowWellFormed.b17 : TableRowWellFormed.Statement .b17 := by unfold TableRowWellFormed.Statement; decide
theorem TableRowWellFormed.b18 : TableRowWellFormed.Statement .b18 := by unfold TableRowWellFormed.Statement; decide
theorem TableRowWellFormed.b19 : TableRowWellFormed.Statement .b19 := by unfold TableRowWellFormed.Statement; decide
theorem TableRowWellFormed.b20 : TableRowWellFormed.Statement .b20 := by unfold TableRowWellFormed.Statement; decide
theorem TableRowWellFormed.b21 : TableRowWellFormed.Statement .b21 := by unfold TableRowWellFormed.Statement; decide
theorem TableRowWellFormed.b22 : TableRowWellFormed.Statement .b22 := by unfold TableRowWellFormed.Statement; decide
theorem TableRowWellFormed.b23 : TableRowWellFormed.Statement .b23 := by unfold TableRowWellFormed.Statement; decide
theorem TableRowWellFormed.b24 : TableRowWellFormed.Statement .b24 := by unfold TableRowWellFormed.Statement; decide
theorem TableRowWellFormed.b25 : TableRowWellFormed.Statement .b25 := by unfold TableRowWellFormed.Statement; decide
theorem TableRowWellFormed.b26 : TableRowWellFormed.Statement .b26 := by unfold TableRowWellFormed.Statement; decide
theorem TableRowWellFormed.b27 : TableRowWellFormed.Statement .b27 := by unfold TableRowWellFormed.Statement; decide
theorem TableRowWellFormed.b28 : TableRowWellFormed.Statement .b28 := by unfold TableRowWellFormed.Statement; decide
theorem TableRowWellFormed.b29 : TableRowWellFormed.Statement .b29 := by unfold TableRowWellFormed.Statement; decide
theorem TableRowWellFormed.b30 : TableRowWellFormed.Statement .b30 := by unfold TableRowWellFormed.Statement; decide
theorem TableRowWellFormed.b31 : TableRowWellFormed.Statement .b31 := by unfold TableRowWellFormed.Statement; decide
theorem TableRowWellFormed.b32 : TableRowWellFormed.Statement .b32 := by unfold TableRowWellFormed.Statement; decide
theorem TableRowWellFormed.b33 : TableRowWellFormed.Statement .b33 := by unfold TableRowWellFormed.Statement; decide
theorem TableRowWellFormed.b34 : TableRowWellFormed.Statement .b34 := by unfold TableRowWellFormed.Statement; decide
theorem TableRowWellFormed.b35 : TableRowWellFormed.Statement .b35 := by unfold TableRowWellFormed.Statement; decide
theorem TableRowWellFormed.b36 : TableRowWellFormed.Statement .b36 := by unfold TableRowWellFormed.Statement; decide
theorem TableRowWellFormed.b37 : TableRowWellFormed.Statement .b37 := by unfold TableRowWellFormed.Statement; decide
theorem TableRowWellFormed.b38 : TableRowWellFormed.Statement .b38 := by unfold TableRowWellFormed.Statement; decide
theorem TableRowWellFormed.b39 : TableRowWellFormed.Statement .b39 := by unfold TableRowWellFormed.Statement; decide
theorem TableRowWellFormed.b40 : TableRowWellFormed.Statement .b40 := by unfold TableRowWellFormed.Statement; decide
theorem TableRowWellFormed.b41 : TableRowWellFormed.Statement .b41 := by unfold TableRowWellFormed.Statement; decide
theorem TableRowWellFormed.b42 : TableRowWellFormed.Statement .b42 := by unfold TableRowWellFormed.Statement; decide
theorem TableRowWellFormed.b43 : TableRowWellFormed.Statement .b43 := by unfold TableRowWellFormed.Statement; decide
theorem TableRowWellFormed.b44 : TableRowWellFormed.Statement .b44 := by unfold TableRowWellFormed.Statement; decide
theorem TableRowWellFormed.b45 : TableRowWellFormed.Statement .b45 := by unfold TableRowWellFormed.Statement; decide
theorem TableRowWellFormed.b46 : TableRowWellFormed.Statement .b46 := by unfold TableRowWellFormed.Statement; decide
theorem TableRowWellFormed.b47 : TableRowWellFormed.Statement .b47 := by unfold TableRowWellFormed.Statement; decide
theorem TableRowWellFormed.b48 : TableRowWellFormed.Statement .b48 := by unfold TableRowWellFormed.Statement; decide
theorem TableRowWellFormed.b49 : TableRowWellFormed.Statement .b49 := by unfold TableRowWellFormed.Statement; decide
theorem TableRowWellFormed.b50 : TableRowWellFormed.Statement .b50 := by unfold TableRowWellFormed.Statement; decide
theorem TableRowWellFormed.b51 : TableRowWellFormed.Statement .b51 := by unfold TableRowWellFormed.Statement; decide
theorem TableRowWellFormed.b52 : TableRowWellFormed.Statement .b52 := by unfold TableRowWellFormed.Statement; decide
theorem TableRowWellFormed.b53 : TableRowWellFormed.Statement .b53 := by unfold TableRowWellFormed.Statement; decide
theorem TableRowWellFormed.b54 : TableRowWellFormed.Statement .b54 := by unfold TableRowWellFormed.Statement; decide
theorem TableRowWellFormed.b55 : TableRowWellFormed.Statement .b55 := by unfold TableRowWellFormed.Statement; decide
theorem TableRowWellFormed.b56 : TableRowWellFormed.Statement .b56 := by unfold TableRowWellFormed.Statement; decide
theorem TableRowWellFormed.b57 : TableRowWellFormed.Statement .b57 := by unfold TableRowWellFormed.Statement; decide
theorem TableRowWellFormed.b58 : TableRowWellFormed.Statement .b58 := by unfold TableRowWellFormed.Statement; decide
theorem TableRowWellFormed.b59 : TableRowWellFormed.Statement .b59 := by unfold TableRowWellFormed.Statement; decide
theorem TableRowWellFormed.b60 : TableRowWellFormed.Statement .b60 := by unfold TableRowWellFormed.Statement; decide
theorem TableRowWellFormed.b61 : TableRowWellFormed.Statement .b61 := by unfold TableRowWellFormed.Statement; decide
theorem TableRowWellFormed.b62 : TableRowWellFormed.Statement .b62 := by unfold TableRowWellFormed.Statement; decide
theorem TableRowWellFormed.b63 : TableRowWellFormed.Statement .b63 := by unfold TableRowWellFormed.Statement; decide
theorem TableRowWellFormed.wm64 : TableRowWellFormed.Statement .wm64 := by unfold TableRowWellFormed.Statement; decide
theorem TableRowWellFormed.wm128 : TableRowWellFormed.Statement .wm128 := by unfold TableRowWellFormed.Statement; decide
theorem TableRowWellFormed.wm192 : TableRowWellFormed.Statement .wm192 := by unfold TableRowWellFormed.Statement; decide
theorem TableRowWellFormed.wm256 : TableRowWellFormed.Statement .wm256 := by unfold TableRowWellFormed.Statement; decide
theorem TableRowWellFormed.wm320 : TableRowWellFormed.Statement .wm320 := by unfold TableRowWellFormed.Statement; decide
theorem TableRowWellFormed.wm384 : TableRowWellFormed.Statement .wm384 := by unfold TableRowWellFormed.Statement; decide
theorem TableRowWellFormed.wm448 : TableRowWellFormed.Statement .wm448 := by unfold TableRowWellFormed.Statement; decide
theorem TableRowWellFormed.wm512 : TableRowWellFormed.Statement .wm512 := by unfold TableRowWellFormed.Statement; decide
theorem TableRowWellFormed.wm576 : TableRowWellFormed.Statement .wm576 := by unfold TableRowWellFormed.Statement; decide
theorem TableRowWellFormed.wm640 : TableRowWellFormed.Statement .wm640 := by unfold TableRowWellFormed.Statement; decide
theorem TableRowWellFormed.wm704 : TableRowWellFormed.Statement .wm704 := by unfold TableRowWellFormed.Statement; decide
theorem TableRowWellFormed.wm768 : TableRowWellFormed.Statement .wm768 := by unfold TableRowWellFormed.Statement; decide
theorem TableRowWellFormed.wm832 : TableRowWellFormed.Statement .wm832 := by unfold TableRowWellFormed.Statement; decide
theorem TableRowWellFormed.wm896 : TableRowWellFormed.Statement .wm896 := by unfold TableRowWellFormed.Statement; decide
theorem TableRowWellFormed.wm960 : TableRowWellFormed.Statement .wm960 := by unfold TableRowWellFormed.Statement; decide
theorem TableRowWellFormed.wm1024 : TableRowWellFormed.Statement .wm1024 := by unfold TableRowWellFormed.Statement; decide
theorem TableRowWellFormed.wm1088 : TableRowWellFormed.Statement .wm1088 := by unfold TableRowWellFormed.Statement; decide
theorem TableRowWellFormed.wm1152 : TableRowWellFormed.Statement .wm1152 := by unfold TableRowWellFormed.Statement; decide
theorem TableRowWellFormed.wm1216 : TableRowWellFormed.Statement .wm1216 := by unfold TableRowWellFormed.Statement; decide
theorem TableRowWellFormed.wm1280 : TableRowWellFormed.Statement .wm1280 := by unfold TableRowWellFormed.Statement; decide
theorem TableRowWellFormed.wm1344 : TableRowWellFormed.Statement .wm1344 := by unfold TableRowWellFormed.Statement; decide
theorem TableRowWellFormed.wm1408 : TableRowWellFormed.Statement .wm1408 := by unfold TableRowWellFormed.Statement; decide
theorem TableRowWellFormed.wm1472 : TableRowWellFormed.Statement .wm1472 := by unfold TableRowWellFormed.Statement; decide
theorem TableRowWellFormed.wm1536 : TableRowWellFormed.Statement .wm1536 := by unfold TableRowWellFormed.Statement; decide
theorem TableRowWellFormed.wm1600 : TableRowWellFormed.Statement .wm1600 := by unfold TableRowWellFormed.Statement; decide
theorem TableRowWellFormed.wm1664 : TableRowWellFormed.Statement .wm1664 := by unfold TableRowWellFormed.Statement; decide
theorem TableRowWellFormed.wm1728 : TableRowWellFormed.Statement .wm1728 := by unfold TableRowWellFormed.Statement; decide
theorem TableRowWellFormed.bm64 : TableRowWellFormed.Statement .bm64 := by unfold TableRowWellFormed.Statement; decide
theorem TableRowWellFormed.bm128 : TableRowWellFormed.Statement .bm128 := by unfold TableRowWellFormed.Statement; decide
theorem TableRowWellFormed.bm192 : TableRowWellFormed.Statement .bm192 := by unfold TableRowWellFormed.Statement; decide
theorem TableRowWellFormed.bm256 : TableRowWellFormed.Statement .bm256 := by unfold TableRowWellFormed.Statement; decide
theorem TableRowWellFormed.bm320 : TableRowWellFormed.Statement .bm320 := by unfold TableRowWellFormed.Statement; decide
theorem TableRowWellFormed.bm384 : TableRowWellFormed.Statement .bm384 := by unfold TableRowWellFormed.Statement; decide
theorem TableRowWellFormed.bm448 : TableRowWellFormed.Statement .bm448 := by unfold TableRowWellFormed.Statement; decide
theorem TableRowWellFormed.bm512 : TableRowWellFormed.Statement .bm512 := by unfold TableRowWellFormed.Statement; decide
theorem TableRowWellFormed.bm576 : TableRowWellFormed.Statement .bm576 := by unfold TableRowWellFormed.Statement; decide
theorem TableRowWellFormed.bm640 : TableRowWellFormed.Statement .bm640 := by unfold TableRowWellFormed.Statement; decide
theorem TableRowWellFormed.bm704 : TableRowWellFormed.Statement .bm704 := by unfold TableRowWellFormed.Statement; decide
theorem TableRowWellFormed.bm768 : TableRowWellFormed.Statement .bm768 := by unfold TableRowWellFormed.Statement; decide
theorem TableRowWellFormed.bm832 : TableRowWellFormed.Statement .bm832 := by unfold TableRowWellFormed.Statement; decide
theorem TableRowWellFormed.bm896 : TableRowWellFormed.Statement .bm896 := by unfold TableRowWellFormed.Statement; decide
theorem TableRowWellFormed.bm960 : TableRowWellFormed.Statement .bm960 := by unfold TableRowWellFormed.Statement; decide
theorem TableRowWellFormed.bm1024 : TableRowWellFormed.Statement .bm1024 := by unfold TableRowWellFormed.Statement; decide
theorem TableRowWellFormed.bm1088 : TableRowWellFormed.Statement .bm1088 := by unfold TableRowWellFormed.Statement; decide
theorem TableRowWellFormed.bm1152 : TableRowWellFormed.Statement .bm1152 := by unfold TableRowWellFormed.Statement; decide
theorem TableRowWellFormed.bm1216 : TableRowWellFormed.Statement .bm1216 := by unfold TableRowWellFormed.Statement; decide
theorem TableRowWellFormed.bm1280 : TableRowWellFormed.Statement .bm1280 := by unfold TableRowWellFormed.Statement; decide
theorem TableRowWellFormed.bm1344 : TableRowWellFormed.Statement .bm1344 := by unfold TableRowWellFormed.Statement; decide
theorem TableRowWellFormed.bm1408 : TableRowWellFormed.Statement .bm1408 := by unfold TableRowWellFormed.Statement; decide
theorem TableRowWellFormed.bm1472 : TableRowWellFormed.Statement .bm1472 := by unfold TableRowWellFormed.Statement; decide
theorem TableRowWellFormed.bm1536 : TableRowWellFormed.Statement .bm1536 := by unfold TableRowWellFormed.Statement; decide
theorem TableRowWellFormed.bm1600 : TableRowWellFormed.Statement .bm1600 := by unfold TableRowWellFormed.Statement; decide
theorem TableRowWellFormed.bm1664 : TableRowWellFormed.Statement .bm1664 := by unfold TableRowWellFormed.Statement; decide
theorem TableRowWellFormed.bm1728 : TableRowWellFormed.Statement .bm1728 := by unfold TableRowWellFormed.Statement; decide
theorem TableRowWellFormed.xm1792 : TableRowWellFormed.Statement .xm1792 := by unfold TableRowWellFormed.Statement; decide
theorem TableRowWellFormed.xm1856 : TableRowWellFormed.Statement .xm1856 := by unfold TableRowWellFormed.Statement; decide
theorem TableRowWellFormed.xm1920 : TableRowWellFormed.Statement .xm1920 := by unfold TableRowWellFormed.Statement; decide
theorem TableRowWellFormed.xm1984 : TableRowWellFormed.Statement .xm1984 := by unfold TableRowWellFormed.Statement; decide
theorem TableRowWellFormed.xm2048 : TableRowWellFormed.Statement .xm2048 := by unfold TableRowWellFormed.Statement; decide
theorem TableRowWellFormed.xm2112 : TableRowWellFormed.Statement .xm2112 := by unfold TableRowWellFormed.Statement; decide
theorem TableRowWellFormed.xm2176 : TableRowWellFormed.Statement .xm2176 := by unfold TableRowWellFormed.Statement; decide
theorem TableRowWellFormed.xm2240 : TableRowWellFormed.Statement .xm2240 := by unfold TableRowWellFormed.Statement; decide
theorem TableRowWellFormed.xm2304 : TableRowWellFormed.Statement .xm2304 := by unfold TableRowWellFormed.Statement; decide
theorem TableRowWellFormed.xm2368 : TableRowWellFormed.Statement .xm2368 := by unfold TableRowWellFormed.Statement; decide
theorem TableRowWellFormed.xm2432 : TableRowWellFormed.Statement .xm2432 := by unfold TableRowWellFormed.Statement; decide
theorem TableRowWellFormed.xm2496 : TableRowWellFormed.Statement .xm2496 := by unfold TableRowWellFormed.Statement; decide
theorem TableRowWellFormed.xm2560 : TableRowWellFormed.Statement .xm2560 := by unfold TableRowWellFormed.Statement; decide
theorem TableRowWellFormed.p : TableRowWellFormed.Statement .p := by unfold TableRowWellFormed.Statement; decide
theorem TableRowWellFormed.h : TableRowWellFormed.Statement .h := by unfold TableRowWellFormed.Statement; decide
theorem TableRowWellFormed.v0 : TableRowWellFormed.Statement .v0 := by unfold TableRowWellFormed.Statement; decide
theorem TableRowWellFormed.vr1 : TableRowWellFormed.Statement .vr1 := by unfold TableRowWellFormed.Statement; decide
theorem TableRowWellFormed.vr2 : TableRowWellFormed.Statement .vr2 := by unfold TableRowWellFormed.Statement; decide
theorem TableRowWellFormed.vr3 : TableRowWellFormed.Statement .vr3 := by unfold TableRowWellFormed.Statement; decide
theorem TableRowWellFormed.vl1 : TableRowWellFormed.Statement .vl1 := by unfold TableRowWellFormed.Statement; decide
theorem TableRowWellFormed.vl2 : TableRowWellFormed.Statement .vl2 := by unfold TableRowWellFormed.Statement; decide
theorem TableRowWellFormed.vl3 : TableRowWellFormed.Statement .vl3 := by unfold TableRowWellFormed.Statement; decide
theorem TableRowWellFormed.eol : TableRowWellFormed.Statement .eol := by unfold TableRowWellFormed.Statement; decide
theorem TableRowWellFormed.eol0 : TableRowWellFormed.Statement .eol0 := by unfold TableRowWellFormed.Statement; decide
theorem TableRowWellFormed.eol1 : TableRowWellFormed.Statement .eol1 := by unfold TableRowWellFormed.Statement; decide

end Sys2Proof.Laws
end

