-- ==== Sys2Proof/Machine/Assembler.lean ====
section
/-! DEFINITION. The assembly notation of a stream (30_encoding.md R106, R107): mnemonics, pseudo-instructions and their
expansions, and the bytes a program assembles to. -/

namespace Sys2Proof.Machine

/-- The mnemonic of a codeword (R106). -/
def mnemonic : Instr → String
  | .w0 => "W0"
  | .w1 => "W1"
  | .w2 => "W2"
  | .w3 => "W3"
  | .w4 => "W4"
  | .w5 => "W5"
  | .w6 => "W6"
  | .w7 => "W7"
  | .w8 => "W8"
  | .w9 => "W9"
  | .w10 => "W10"
  | .w11 => "W11"
  | .w12 => "W12"
  | .w13 => "W13"
  | .w14 => "W14"
  | .w15 => "W15"
  | .w16 => "W16"
  | .w17 => "W17"
  | .w18 => "W18"
  | .w19 => "W19"
  | .w20 => "W20"
  | .w21 => "W21"
  | .w22 => "W22"
  | .w23 => "W23"
  | .w24 => "W24"
  | .w25 => "W25"
  | .w26 => "W26"
  | .w27 => "W27"
  | .w28 => "W28"
  | .w29 => "W29"
  | .w30 => "W30"
  | .w31 => "W31"
  | .w32 => "W32"
  | .w33 => "W33"
  | .w34 => "W34"
  | .w35 => "W35"
  | .w36 => "W36"
  | .w37 => "W37"
  | .w38 => "W38"
  | .w39 => "W39"
  | .w40 => "W40"
  | .w41 => "W41"
  | .w42 => "W42"
  | .w43 => "W43"
  | .w44 => "W44"
  | .w45 => "W45"
  | .w46 => "W46"
  | .w47 => "W47"
  | .w48 => "W48"
  | .w49 => "W49"
  | .w50 => "W50"
  | .w51 => "W51"
  | .w52 => "W52"
  | .w53 => "W53"
  | .w54 => "W54"
  | .w55 => "W55"
  | .w56 => "W56"
  | .w57 => "W57"
  | .w58 => "W58"
  | .w59 => "W59"
  | .w60 => "W60"
  | .w61 => "W61"
  | .w62 => "W62"
  | .w63 => "W63"
  | .b0 => "B0"
  | .b1 => "B1"
  | .b2 => "B2"
  | .b3 => "B3"
  | .b4 => "B4"
  | .b5 => "B5"
  | .b6 => "B6"
  | .b7 => "B7"
  | .b8 => "B8"
  | .b9 => "B9"
  | .b10 => "B10"
  | .b11 => "B11"
  | .b12 => "B12"
  | .b13 => "B13"
  | .b14 => "B14"
  | .b15 => "B15"
  | .b16 => "B16"
  | .b17 => "B17"
  | .b18 => "B18"
  | .b19 => "B19"
  | .b20 => "B20"
  | .b21 => "B21"
  | .b22 => "B22"
  | .b23 => "B23"
  | .b24 => "B24"
  | .b25 => "B25"
  | .b26 => "B26"
  | .b27 => "B27"
  | .b28 => "B28"
  | .b29 => "B29"
  | .b30 => "B30"
  | .b31 => "B31"
  | .b32 => "B32"
  | .b33 => "B33"
  | .b34 => "B34"
  | .b35 => "B35"
  | .b36 => "B36"
  | .b37 => "B37"
  | .b38 => "B38"
  | .b39 => "B39"
  | .b40 => "B40"
  | .b41 => "B41"
  | .b42 => "B42"
  | .b43 => "B43"
  | .b44 => "B44"
  | .b45 => "B45"
  | .b46 => "B46"
  | .b47 => "B47"
  | .b48 => "B48"
  | .b49 => "B49"
  | .b50 => "B50"
  | .b51 => "B51"
  | .b52 => "B52"
  | .b53 => "B53"
  | .b54 => "B54"
  | .b55 => "B55"
  | .b56 => "B56"
  | .b57 => "B57"
  | .b58 => "B58"
  | .b59 => "B59"
  | .b60 => "B60"
  | .b61 => "B61"
  | .b62 => "B62"
  | .b63 => "B63"
  | .wm64 => "WM64"
  | .wm128 => "WM128"
  | .wm192 => "WM192"
  | .wm256 => "WM256"
  | .wm320 => "WM320"
  | .wm384 => "WM384"
  | .wm448 => "WM448"
  | .wm512 => "WM512"
  | .wm576 => "WM576"
  | .wm640 => "WM640"
  | .wm704 => "WM704"
  | .wm768 => "WM768"
  | .wm832 => "WM832"
  | .wm896 => "WM896"
  | .wm960 => "WM960"
  | .wm1024 => "WM1024"
  | .wm1088 => "WM1088"
  | .wm1152 => "WM1152"
  | .wm1216 => "WM1216"
  | .wm1280 => "WM1280"
  | .wm1344 => "WM1344"
  | .wm1408 => "WM1408"
  | .wm1472 => "WM1472"
  | .wm1536 => "WM1536"
  | .wm1600 => "WM1600"
  | .wm1664 => "WM1664"
  | .wm1728 => "WM1728"
  | .bm64 => "BM64"
  | .bm128 => "BM128"
  | .bm192 => "BM192"
  | .bm256 => "BM256"
  | .bm320 => "BM320"
  | .bm384 => "BM384"
  | .bm448 => "BM448"
  | .bm512 => "BM512"
  | .bm576 => "BM576"
  | .bm640 => "BM640"
  | .bm704 => "BM704"
  | .bm768 => "BM768"
  | .bm832 => "BM832"
  | .bm896 => "BM896"
  | .bm960 => "BM960"
  | .bm1024 => "BM1024"
  | .bm1088 => "BM1088"
  | .bm1152 => "BM1152"
  | .bm1216 => "BM1216"
  | .bm1280 => "BM1280"
  | .bm1344 => "BM1344"
  | .bm1408 => "BM1408"
  | .bm1472 => "BM1472"
  | .bm1536 => "BM1536"
  | .bm1600 => "BM1600"
  | .bm1664 => "BM1664"
  | .bm1728 => "BM1728"
  | .xm1792 => "XM1792"
  | .xm1856 => "XM1856"
  | .xm1920 => "XM1920"
  | .xm1984 => "XM1984"
  | .xm2048 => "XM2048"
  | .xm2112 => "XM2112"
  | .xm2176 => "XM2176"
  | .xm2240 => "XM2240"
  | .xm2304 => "XM2304"
  | .xm2368 => "XM2368"
  | .xm2432 => "XM2432"
  | .xm2496 => "XM2496"
  | .xm2560 => "XM2560"
  | .p => "P"
  | .h => "H"
  | .v0 => "V0"
  | .vr1 => "VR1"
  | .vr2 => "VR2"
  | .vr3 => "VR3"
  | .vl1 => "VL1"
  | .vl2 => "VL2"
  | .vl3 => "VL3"
  | .eol => "EOL"
  | .eol0 => "EOL0"
  | .eol1 => "EOL1"

/-- Every codeword. -/
def allCodewords : List Instr :=
  whiteTerminals ++ blackTerminals ++ whiteMakeups ++ blackMakeups ++ sharedMakeups ++ controlCodes ++ [.eol, .eol0, .eol1]

/-- An item of a program: a codeword or a pseudo-instruction of R107. -/
inductive AsmItem where
  | code (i : Instr)
  /-- `WRUN n`. -/
  | wrun (n : Nat)
  /-- `BRUN n`. -/
  | brun (n : Nat)
  | rtc
  | rtc2d
  | eofb
  /-- 0 to 7 bits `0`; not a codeword. -/
  | align
  /-- `HRUNS c n m`. -/
  | hruns (c : Colour) (n m : Nat)
deriving DecidableEq, Repr

/-- The expansion of an item into codewords (R107); `ALIGN` has none. -/
def AsmItem.expand : AsmItem → List Instr
  | .code i => [i]
  | .wrun n => runCodes .white n
  | .brun n => runCodes .black n
  | .rtc => List.replicate 6 .eol
  | .rtc2d => List.replicate 6 .eol1
  | .eofb => [.eol, .eol]
  | .align => []
  | .hruns c n m => .h :: (runCodes c n ++ runCodes c.opp m)

/-- `bitsOf(code)` of 00_scope.md R10, first transmitted bit first. -/
def bitsOf (k : Code) : List Bool := (List.range k.length).map fun i => k.codeword.getLsbD (15 - i)

/-- Zero bits up to the next multiple of 8. -/
def padded (bits : List Bool) : List Bool := bits ++ List.replicate (alignUp bits.length - bits.length) false

/-- The bits of a program, appended to what is there (R106). -/
def assembleBits : List Bool → List AsmItem → List Bool
  | bits, [] => bits
  | bits, .align :: rest => assembleBits (padded bits) rest
  | bits, item :: rest => assembleBits (bits ++ item.expand.flatMap fun i => bitsOf (encode i)) rest

/-- Eight bits at a time into bytes, the first bit into bit 7. -/
def packBytes : List Bool → List Byte
  | a :: b :: c :: d :: e :: f :: g :: h :: rest =>
    BitVec.ofNat 8 (128 * a.toNat + 64 * b.toNat + 32 * c.toNat + 16 * d.toNat + 8 * e.toNat + 4 * f.toNat
      + 2 * g.toNat + h.toNat) :: packBytes rest
  | _ => []

/-- The bytes of a program; the last one is padded with 0 bits (R106). -/
def assemble (program : List AsmItem) : List Byte := packBytes (padded (assembleBits [] program))

/-! ### The textual form (R106) -/

/-- Words separated by spaces and newlines; a comment runs from `;` to the end of the line. `word` is the word being
read, last character first. -/
def words : (inComment : Bool) → (word : List Char) → List Char → List (List Char)
  | _, w, [] => if w.isEmpty then [] else [w.reverse]
  | inComment, w, ch :: rest =>
    let close := if w.isEmpty then [] else [w.reverse]
    if ch = '\n' then close ++ words false [] rest
    else if inComment then words true w rest
    else if ch = ';' then close ++ words true [] rest
    else if ch = ' ' then close ++ words false [] rest
    else words false (ch :: w) rest

/-- A decimal numeral. -/
def numeral (w : List Char) : Option Nat :=
  if w.isEmpty then none
  else
    w.foldl
      (fun acc ch =>
        match acc with
        | some n => if '0'.toNat ≤ ch.toNat ∧ ch.toNat ≤ '9'.toNat then some (10 * n + (ch.toNat - '0'.toNat)) else none
        | none => none)
      (some 0)

/-- The colour argument of `HRUNS`. -/
def colourWord (w : List Char) : Option Colour :=
  if w = ['W'] then some .white else if w = ['B'] then some .black else none

/-- A pseudo-instruction without arguments. -/
def bareItem (w : List Char) : Option AsmItem :=
  if w = "RTC".toList then some .rtc
  else if w = "RTC2D".toList then some .rtc2d
  else if w = "EOFB".toList then some .eofb
  else if w = "ALIGN".toList then some .align
  else none

/-- A mnemonic or a pseudo-instruction without arguments. -/
def plainItem (w : List Char) : Option AsmItem :=
  match allCodewords.find? fun i => (mnemonic i).toList = w with
  | some i => some (.code i)
  | none => bareItem w

/-- `WRUN n` and `BRUN n`. -/
def runItem (w a : List Char) : Option AsmItem :=
  if w = "WRUN".toList then (numeral a).map .wrun
  else if w = "BRUN".toList then (numeral a).map .brun
  else none

/-- `HRUNS c n m`. -/
def pairItem (w c n m : List Char) : Option AsmItem :=
  if w = "HRUNS".toList then
    match colourWord c, numeral n, numeral m with
    | some c, some n, some m => some (.hruns c n m)
    | _, _, _ => none
  else none

/-- One item per turn; `fuel` bounds the number of items. -/
def parseWords : (fuel : Nat) → List (List Char) → Option (List AsmItem)
  | _, [] => some []
  | 0, _ :: _ => none
  | fuel + 1, w :: rest =>
    match plainItem w with
    | some item => (parseWords fuel rest).map fun p => item :: p
    | none =>
      match rest with
      | [] => none
      | a :: rest =>
        match runItem w a with
        | some item => (parseWords fuel rest).map fun p => item :: p
        | none =>
          match rest with
          | b :: c :: rest =>
            match pairItem w a b c with
            | some item => (parseWords fuel rest).map fun p => item :: p
            | none => none
          | _ => none

/-- A program's text; `none` when a word is no mnemonic. -/
def parseProgram (text : String) : Option (List AsmItem) :=
  let ws := words false [] text.toList
  parseWords ws.length ws

end Sys2Proof.Machine
end

