-- ==== Sys2Proof/Tests/Slice0.lean ====
section
/-! SUPPORT. The model's own tests: every codeword decoded from its bits, ill-formed terms, the spec's worked examples one
step at a time, and for every obligation with hypotheses a state that meets them. -/

namespace Sys2Proof.Tests

open Sys2Proof.Machine

/-! ### Every codeword from its bits, with ones behind them (the words of 41 to 43, 47 and 48, written out) -/

/-- 41_codes_white_terminal.md. -/
def whiteTerminalWords : List (Word × Instr) :=
  [(0b0011010111111111, .w0), (0b0001111111111111, .w1), (0b0111111111111111, .w2), (0b1000111111111111, .w3),
   (0b1011111111111111, .w4), (0b1100111111111111, .w5), (0b1110111111111111, .w6), (0b1111111111111111, .w7),
   (0b1001111111111111, .w8), (0b1010011111111111, .w9), (0b0011111111111111, .w10), (0b0100011111111111, .w11),
   (0b0010001111111111, .w12), (0b0000111111111111, .w13), (0b1101001111111111, .w14), (0b1101011111111111, .w15),
   (0b1010101111111111, .w16), (0b1010111111111111, .w17), (0b0100111111111111, .w18), (0b0001100111111111, .w19),
   (0b0001000111111111, .w20), (0b0010111111111111, .w21), (0b0000011111111111, .w22), (0b0000100111111111, .w23),
   (0b0101000111111111, .w24), (0b0101011111111111, .w25), (0b0010011111111111, .w26), (0b0100100111111111, .w27),
   (0b0011000111111111, .w28), (0b0000001011111111, .w29), (0b0000001111111111, .w30), (0b0001101011111111, .w31),
   (0b0001101111111111, .w32), (0b0001001011111111, .w33), (0b0001001111111111, .w34), (0b0001010011111111, .w35),
   (0b0001010111111111, .w36), (0b0001011011111111, .w37), (0b0001011111111111, .w38), (0b0010100011111111, .w39),
   (0b0010100111111111, .w40), (0b0010101011111111, .w41), (0b0010101111111111, .w42), (0b0010110011111111, .w43),
   (0b0010110111111111, .w44), (0b0000010011111111, .w45), (0b0000010111111111, .w46), (0b0000101011111111, .w47),
   (0b0000101111111111, .w48), (0b0101001011111111, .w49), (0b0101001111111111, .w50), (0b0101010011111111, .w51),
   (0b0101010111111111, .w52), (0b0010010011111111, .w53), (0b0010010111111111, .w54), (0b0101100011111111, .w55),
   (0b0101100111111111, .w56), (0b0101101011111111, .w57), (0b0101101111111111, .w58), (0b0100101011111111, .w59),
   (0b0100101111111111, .w60), (0b0011001011111111, .w61), (0b0011001111111111, .w62), (0b0011010011111111, .w63)]

theorem test_decode_white_terminal_words : ∀ r, r ∈ whiteTerminalWords → decode .white r.1 16 = .instr r.2 := by decide

/-- 42_codes_black_terminal.md. -/
def blackTerminalWords : List (Word × Instr) :=
  [(0b0000110111111111, .b0), (0b0101111111111111, .b1), (0b1111111111111111, .b2), (0b1011111111111111, .b3),
   (0b0111111111111111, .b4), (0b0011111111111111, .b5), (0b0010111111111111, .b6), (0b0001111111111111, .b7),
   (0b0001011111111111, .b8), (0b0001001111111111, .b9), (0b0000100111111111, .b10), (0b0000101111111111, .b11),
   (0b0000111111111111, .b12), (0b0000010011111111, .b13), (0b0000011111111111, .b14), (0b0000110001111111, .b15),
   (0b0000010111111111, .b16), (0b0000011000111111, .b17), (0b0000001000111111, .b18), (0b0000110011111111, .b19),
   (0b0000110100011111, .b20), (0b0000110110011111, .b21), (0b0000011011111111, .b22), (0b0000010100011111, .b23),
   (0b0000001011111111, .b24), (0b0000001100011111, .b25), (0b0000110010101111, .b26), (0b0000110010111111, .b27),
   (0b0000110011001111, .b28), (0b0000110011011111, .b29), (0b0000011010001111, .b30), (0b0000011010011111, .b31),
   (0b0000011010101111, .b32), (0b0000011010111111, .b33), (0b0000110100101111, .b34), (0b0000110100111111, .b35),
   (0b0000110101001111, .b36), (0b0000110101011111, .b37), (0b0000110101101111, .b38), (0b0000110101111111, .b39),
   (0b0000011011001111, .b40), (0b0000011011011111, .b41), (0b0000110110101111, .b42), (0b0000110110111111, .b43),
   (0b0000010101001111, .b44), (0b0000010101011111, .b45), (0b0000010101101111, .b46), (0b0000010101111111, .b47),
   (0b0000011001001111, .b48), (0b0000011001011111, .b49), (0b0000010100101111, .b50), (0b0000010100111111, .b51),
   (0b0000001001001111, .b52), (0b0000001101111111, .b53), (0b0000001110001111, .b54), (0b0000001001111111, .b55),
   (0b0000001010001111, .b56), (0b0000010110001111, .b57), (0b0000010110011111, .b58), (0b0000001010111111, .b59),
   (0b0000001011001111, .b60), (0b0000010110101111, .b61), (0b0000011001101111, .b62), (0b0000011001111111, .b63)]

theorem test_decode_black_terminal_words : ∀ r, r ∈ blackTerminalWords → decode .black r.1 16 = .instr r.2 := by decide

/-- 43_codes_makeup.md, white. -/
def whiteMakeupWords : List (Word × Instr) :=
  [(0b1101111111111111, .wm64), (0b1001011111111111, .wm128), (0b0101111111111111, .wm192),
   (0b0110111111111111, .wm256), (0b0011011011111111, .wm320), (0b0011011111111111, .wm384),
   (0b0110010011111111, .wm448), (0b0110010111111111, .wm512), (0b0110100011111111, .wm576),
   (0b0110011111111111, .wm640), (0b0110011001111111, .wm704), (0b0110011011111111, .wm768),
   (0b0110100101111111, .wm832), (0b0110100111111111, .wm896), (0b0110101001111111, .wm960),
   (0b0110101011111111, .wm1024), (0b0110101101111111, .wm1088), (0b0110101111111111, .wm1152),
   (0b0110110001111111, .wm1216), (0b0110110011111111, .wm1280), (0b0110110101111111, .wm1344),
   (0b0110110111111111, .wm1408), (0b0100110001111111, .wm1472), (0b0100110011111111, .wm1536),
   (0b0100110101111111, .wm1600), (0b0110001111111111, .wm1664), (0b0100110111111111, .wm1728)]

theorem test_decode_white_makeup_words : ∀ r, r ∈ whiteMakeupWords → decode .white r.1 16 = .instr r.2 := by decide

/-- 43_codes_makeup.md, black. -/
def blackMakeupWords : List (Word × Instr) :=
  [(0b0000001111111111, .bm64), (0b0000110010001111, .bm128), (0b0000110010011111, .bm192),
   (0b0000010110111111, .bm256), (0b0000001100111111, .bm320), (0b0000001101001111, .bm384),
   (0b0000001101011111, .bm448), (0b0000001101100111, .bm512), (0b0000001101101111, .bm576),
   (0b0000001001010111, .bm640), (0b0000001001011111, .bm704), (0b0000001001100111, .bm768),
   (0b0000001001101111, .bm832), (0b0000001110010111, .bm896), (0b0000001110011111, .bm960),
   (0b0000001110100111, .bm1024), (0b0000001110101111, .bm1088), (0b0000001110110111, .bm1152),
   (0b0000001110111111, .bm1216), (0b0000001010010111, .bm1280), (0b0000001010011111, .bm1344),
   (0b0000001010100111, .bm1408), (0b0000001010101111, .bm1472), (0b0000001011010111, .bm1536),
   (0b0000001011011111, .bm1600), (0b0000001100100111, .bm1664), (0b0000001100101111, .bm1728)]

theorem test_decode_black_makeup_words : ∀ r, r ∈ blackMakeupWords → decode .black r.1 16 = .instr r.2 := by decide

/-- 43_codes_makeup.md, shared. -/
def sharedMakeupWords : List (Word × Instr) :=
  [(0b0000000100011111, .xm1792), (0b0000000110011111, .xm1856), (0b0000000110111111, .xm1920),
   (0b0000000100101111, .xm1984), (0b0000000100111111, .xm2048), (0b0000000101001111, .xm2112),
   (0b0000000101011111, .xm2176), (0b0000000101101111, .xm2240), (0b0000000101111111, .xm2304),
   (0b0000000111001111, .xm2368), (0b0000000111011111, .xm2432), (0b0000000111101111, .xm2496),
   (0b0000000111111111, .xm2560)]

theorem test_decode_shared_makeup_words_in_white : ∀ r, r ∈ sharedMakeupWords → decode .white r.1 16 = .instr r.2 := by decide
theorem test_decode_shared_makeup_words_in_black : ∀ r, r ∈ sharedMakeupWords → decode .black r.1 16 = .instr r.2 := by decide

/-- 47_row_coder_2d.md. -/
def controlWords : List (Word × Instr) :=
  [(0b0001111111111111, .p), (0b0011111111111111, .h), (0b1111111111111111, .v0), (0b0111111111111111, .vr1),
   (0b0000111111111111, .vr2), (0b0000011111111111, .vr3), (0b0101111111111111, .vl1), (0b0000101111111111, .vl2),
   (0b0000010111111111, .vl3)]

theorem test_decode_control_words : ∀ r, r ∈ controlWords → decode .ctrl2d r.1 16 = .instr r.2 := by decide

/-- 48_frame_sync_controller.md. -/
theorem test_decode_sync_words :
    decode (.sync .eol) 0b0000000000011111 16 = .instr .eol ∧
    decode (.sync .eol0OrEol1) 0b0000000000010111 16 = .instr .eol0 ∧
    decode (.sync .eol0OrEol1) 0b0000000000011111 16 = .instr .eol1 ∧
    decode (.sync .eol1) 0b0000000000011111 16 = .instr .eol1 := by decide

/-! ### Small states -/

/-- Bytes from offset 0 on. -/
def bytes (l : List Nat) : Memory := Memory.writeBlock [] 0 (l.map (BitVec.ofNat 8))

/-- A line from its letters' meaning: `true` is black. -/
def line (l : List Bool) : Line := l.map fun b => if b then .black else .white

/-- A decode call at a row boundary. -/
def boundary (k : Int) (cols : Nat) (code : List Nat) : State :=
  { State.reset with
    busy := true, dirl := .decode, fstate := .awaitingSync, cfgK := k, cfgColumns := cols
    codeLen := code.length, code := bytes code }

/-- A decode call at the start of a 1D row. -/
def in1D (cols : Nat) (code : List Nat) : State := { boundary 0 cols code with fstate := .decodingRow }

/-- A decode call at the start of a 2D row over a reference line. -/
def in2D (ref : Line) (code : List Nat) : State :=
  { boundary (-1) ref.length code with fstate := .decodingRow, ref := ref }

/-- An encode call in a frame state, its line loaded. -/
def encoding (f : FState) (k : Int) (cur : Line) : State :=
  { State.reset with
    busy := true, dirl := .encode, fstate := f, cfgK := k, cfgColumns := cur.length, cur := cur, nrows := 1 }

/-- Whether an outcome is a next state with a property. -/
def nextWith (r : Result) (p : State → Bool) : Bool :=
  match r with
  | .next t => p t
  | _ => false

/-- Whether an outcome is a refusal for a reason. -/
def refusedFor (r : Result) (why : Refusal) : Bool :=
  match r with
  | .refused x => x = why
  | _ => false

/-! ### Ill-formed terms are refused -/

theorem test_code_of_length_zero_is_ill_formed : (⟨0, 0⟩ : Code).wf = false := by decide
theorem test_code_of_length_14_is_ill_formed : (⟨0x8000, 14⟩ : Code).wf = false := by decide
theorem test_code_with_bits_behind_its_length_is_ill_formed : (⟨0x8001, 1⟩ : Code).wf = false := by decide
theorem test_terminal_run_64_is_ill_formed : (Operand.terminal .white 64).wf = false := by decide
theorem test_makeup_run_0_is_ill_formed : (Operand.makeup .black 0).wf = false := by decide
theorem test_makeup_run_65_is_ill_formed : (Operand.makeup .black 65).wf = false := by decide
theorem test_makeup_run_1792_is_ill_formed : (Operand.makeup .white 1792).wf = false := by decide
theorem test_shared_run_1728_is_ill_formed : (Operand.shared 1728).wf = false := by decide
theorem test_shared_run_2561_is_ill_formed : (Operand.shared 2561).wf = false := by decide
theorem test_shared_run_2624_is_ill_formed : (Operand.shared 2624).wf = false := by decide
theorem test_offset_4_is_ill_formed : (Operand.vertical 4).wf = false := by decide
theorem test_offset_minus_4_is_ill_formed : (Operand.vertical (-4)).wf = false := by decide
theorem test_run_code_of_one_bit_is_ill_formed : (⟨.terminal .white 3, ⟨0x8000, 1⟩⟩ : TableRow).wf = false := by decide
theorem test_pass_of_three_bits_is_ill_formed : (⟨.pass, ⟨0x2000, 3⟩⟩ : TableRow).wf = false := by decide
theorem test_horizontal_of_four_bits_is_ill_formed : (⟨.horizontal, ⟨0x1000, 4⟩⟩ : TableRow).wf = false := by decide
theorem test_offset_1_of_six_bits_is_ill_formed : (⟨.vertical 1, ⟨0x0C00, 6⟩⟩ : TableRow).wf = false := by decide
theorem test_eol_of_13_bits_is_ill_formed : (⟨.eol none, ⟨0x0018, 13⟩⟩ : TableRow).wf = false := by decide
theorem test_tagged_eol_of_12_bits_is_ill_formed : (⟨.eol (some true), ⟨0x0010, 12⟩⟩ : TableRow).wf = false := by decide

/-! ### The decoder's edges -/

/-- R102: the last invalid and the first valid window. -/
theorem test_white_window_00ff_is_invalid : decode .white 0x00FF 16 = .reject .invalidRunCode := by decide
theorem test_white_window_0100_is_xm1792 : decode .white 0x0100 16 = .instr .xm1792 := by decide
theorem test_control_window_03ff_is_invalid : decode .ctrl2d 0x03FF 16 = .reject .invalidControlCode := by decide
theorem test_control_window_0400_is_vl3 : decode .ctrl2d 0x0400 16 = .instr .vl3 := by decide

/-- R386's example: `CODE = 00 18`. -/
theorem test_matchAt_example :
    matchAt (bytes [0x00, 0x18]) 2 0 (encode .eol) = some true ∧
    matchAt (bytes [0x00, 0x18]) 2 0 (encode .eol1) = some true ∧
    matchAt (bytes [0x00, 0x18]) 2 0 (encode .eol0) = some false ∧
    matchAt (bytes [0x00, 0x18]) 2 4 (encode .eol) = some false := by decide

/-- R365: the trees' sizes. -/
theorem test_tree_sizes : whiteTree.size = 208 ∧ blackTree.size = 208 ∧ ctrlTree.size = 18 := by decide

/-- R125's examples of chains. -/
theorem test_run_chains :
    runCodes .white 0 = [.w0] ∧ runCodes .white 63 = [.w63] ∧ runCodes .white 64 = [.wm64, .w0] ∧
    runCodes .black 1791 = [.bm1728, .b63] ∧ runCodes .white 1792 = [.xm1792, .w0] ∧
    runCodes .white 2561 = [.xm2560, .w1] ∧ runCodes .black 5185 = [.xm2560, .xm2560, .bm64, .b1] := by decide

/-! ### The bit stream (examples of 45_bitstream_primitives.md) -/

/-- R380: `CODE = A5 3C F0`. -/
theorem test_fetch_examples :
    fetchNextCode (bytes [0xA5, 0x3C, 0xF0]) 3 0 = some ⟨0xA53C, 16, 16⟩ ∧
    fetchNextCode (bytes [0xA5, 0x3C, 0xF0]) 3 3 = some ⟨0x29E7, 16, 19⟩ ∧
    fetchNextCode (bytes [0xA5, 0x3C, 0xF0]) 3 13 = some ⟨0x9E00, 11, 24⟩ ∧
    fetchNextCode (bytes [0xA5, 0x3C, 0xF0]) 3 24 = some ⟨0x0000, 0, 24⟩ := by decide

/-- R382: `W2 W0` from an empty buffer, and `BM512` at bit 5 of `A8`. -/
theorem test_add_code_examples :
    (addCode [] 0 (encode .w2)).bind (fun m => addCode m 4 (encode .w0)) = some (bytes [0x73, 0x50]) ∧
    addCode (bytes [0xA8]) 5 (encode .bm512) = some (bytes [0xA8, 0x1B, 0x00]) := by decide

/-- R387's examples. -/
theorem test_align_examples : alignUp 0 = 0 ∧ alignUp 1 = 8 ∧ alignUp 8 = 8 ∧ alignUp 26 = 32 := by decide

/-! ### One step each (examples of 46_row_coder_1d.md, 47_row_coder_2d.md, 48_frame_sync_controller.md) -/

/-- R385: `CODE = 80` in white is `W3`, then at bit 4 in black it is exhaustion. -/
theorem test_w3_then_exhaustion :
    nextWith (step (in1D 8 [0x80])) (fun t => t.bitpos = 4 ∧ t.col = 3 ∧ t.color = .black) = true ∧
    nextWith (step { in1D 8 [0x80] with bitpos := 4, color := .black, col := 3 })
      (fun t => t.err = .bufferExhausted ∧ t.bitpos = 4 ∧ t.pixRows = 0 ∧ t.busy = false) = true := by decide

/-- R403: `CODE = 98 6E`, `Columns = 8`: `W8` ends the row at bit 5. -/
theorem test_w8_ends_the_row :
    nextWith (step (in1D 8 [0x98, 0x6E])) (fun t =>
      t.cur = List.replicate 8 .white ∧ t.bitpos = 5 ∧ t.fstate = .rowComplete) = true := by decide

/-- R402: `CODE = DE CD 40`, `Columns = 100`: the second `WM64` is out of range. -/
theorem test_second_makeup_out_of_range :
    nextWith (step (in1D 100 [0xDE, 0xCD, 0x40])) (fun t => t.runacc = 64 ∧ t.bitpos = 5 ∧ t.color = .white) = true ∧
    nextWith (step { in1D 100 [0xDE, 0xCD, 0x40] with bitpos := 5, runacc := 64 })
      (fun t => t.err = .runOutOfRange ∧ t.bitpos = 5) = true := by decide

/-- R406: `CODE = 00 FF` is an invalid run code, `CODE = 00` exhaustion. -/
theorem test_invalid_run_code :
    nextWith (step (in1D 8 [0x00, 0xFF])) (fun t => t.err = .invalidRunCode ∧ t.bitpos = 0) = true ∧
    nextWith (step (in1D 8 [0x00])) (fun t => t.err = .bufferExhausted ∧ t.bitpos = 0) = true := by decide

/-- R430: `REF = WWBBWWWW`: `P` draws four white pixels. -/
theorem test_pass_example :
    nextWith (step (in2D (line [false, false, true, true, false, false, false, false]) [0x10, 0xA0]))
      (fun t => t.a0 = 4 ∧ t.col = 4 ∧ t.cur = List.replicate 4 .white ∧ t.color = .white ∧ t.bitpos = 4) = true := by
  decide

/-- R433: `REF = WWWWWWWB`: `VR1` is the whole row. -/
theorem test_vr1_example :
    nextWith (step (in2D (line [false, false, false, false, false, false, false, true]) [0x60]))
      (fun t => t.a0 = 8 ∧ t.fstate = .rowComplete ∧ t.cur = List.replicate 8 .white ∧ t.color = .black) = true := by
  decide

/-- R441: `REF = BWWWWWWW`, `CODE = 40`: `VL1` has its target left of the line. -/
theorem test_vl1_out_of_range :
    nextWith (step (in2D (line [true, false, false, false, false, false, false, false]) [0x40, 0x00]))
      (fun t => t.err = .runOutOfRange ∧ t.bitpos = 0) = true := by decide

/-- R440: `H W0 B0` at the start of a row sets `A0` to 0, not -1. -/
theorem test_empty_pair_sets_a0 :
    nextWith (step { in2D (List.replicate 8 .white) [0x26, 0xA1, 0xB8] with
        bitpos := 11, hphase := .second, color := .black })
      (fun t => t.a0 = 0 ∧ t.col = 0 ∧ t.hphase = .none ∧ t.color = .white ∧ t.bitpos = 21) = true := by decide

/-- R480: `K = 0`, `CODE = 00 19 80`: one `EOL` is consumed and a row begins. -/
theorem test_eol_prefix :
    nextWith (step (boundary 0 8 [0x00, 0x19, 0x80])) (fun t => t.bitpos = 12 ∧ t.fstate = .decodingRow) = true := by
  decide

/-- R480: two `EOL`s and data are a corrupt RTC; `EndOfLine` without an `EOL` is `MissingEOL`. -/
theorem test_boundary_errors :
    nextWith (step (boundary 0 8 [0x00, 0x10, 0x01, 0x98])) (fun t => t.err = .corruptTerminatorRTC ∧ t.bitpos = 0) = true ∧
    nextWith (step { boundary 0 8 [0x98] with cfgFlags := 1 }) (fun t => t.err = .missingEOL ∧ t.bitpos = 0) = true ∧
    nextWith (step { boundary (-1) 8 [0x80, 0x0F, 0x80] with bitpos := 1, ref := List.replicate 8 .white })
      (fun t => t.err = .corruptTerminatorEOFB ∧ t.bitpos = 1) = true := by decide

/-- R480 (e): an empty buffer ends the call without an error. -/
theorem test_empty_buffer :
    nextWith (step (boundary 0 8 [])) (fun t => t.err = .none ∧ t.pixRows = 0 ∧ t.done = true) = true := by decide

/-- R401's first row, `WWWBBWWW`, and R439's first, `WWWWWWWB` over white: their bytes. -/
theorem test_encoded_rows :
    nextWith (step (encoding .decodingRow 0 (line [false, false, false, true, true, false, false, false])))
      (fun t => t.code = bytes [0x8E, 0x00] ∧ t.bitpos = 10 ∧ t.fstate = .rowComplete) = true ∧
    nextWith (step { encoding .decodingRow (-1) (line [false, false, false, false, false, false, false, true]) with
        ref := List.replicate 8 .white })
      (fun t => t.code = bytes [0x50] ∧ t.bitpos = 4) = true := by decide

/-- R32, R523: a START straight after reset is refused until the width is written. -/
theorem test_start_after_reset_is_refused :
    refusedFor (step { State.reset with host := [.access (.writeReg 0 3)] }) (.startNotAdmitted .b) = true := by decide

/-- R67, R380: a byte at or beyond `CODE_LEN` is never read; one below it that nothing has written is refused (R45). -/
theorem test_unwritten_byte_is_refused :
    refusedFor (step { in1D 8 [0x98] with codeLen := 2 }) (.unwrittenByte .code) = true ∧
    nextWith (step (in1D 8 [0x98])) (fun t => t.bitpos = 5) = true := by decide

/-- A codeword outside its context is refused (log 10). -/
theorem test_out_of_context : refusedFor (exec .v0 (in1D 8 [0x80])) .outOfContext = true := by decide

/-- `withFetchWord` makes the next step run the word (log 12): `VL3`, `XM2560` and `EOL1` after reset. -/
theorem test_fetch_word :
    nextWith (step (State.reset.withFetchWord 16 0x0400)) (fun t => t.bitpos = 7 ∧ t.color = .black) = true ∧
    nextWith (step (State.reset.withFetchWord 16 0x01F0)) (fun t => t.bitpos = 12 ∧ t.runacc = 2560) = true ∧
    nextWith (step (State.reset.withFetchWord 16 0x0018)) (fun t => t.bitpos = 13 ∧ t.fstate = .decodingRow) = true := by
  decide

/-- The assembler's words of R107, `HRUNS W 3 3` and `RTC2D`, and the bytes of R490's fifth line. -/
theorem test_assembler :
    parseProgram "HRUNS W 3 3" = some [.hruns .white 3 3] ∧
    AsmItem.expand (.hruns .white 3 3) = [.h, .w3, .b3] ∧
    assemble [.code .vl1, .code .v0, .eofb] = [0x50#8, 0x01#8, 0x00#8, 0x10#8] := by decide

/-! ### Every hypothesis can be met -/

theorem witness_DecodeReadsBackEveryCodeword :
    (Instr.w3 ∈ Context.white.codewords ∧ Spec.Spells (encode .w3) 0x8FFF ∧ (encode .w3).length ≤ 4) ∧
    (Instr.eol1 ∈ (Context.sync .eol0OrEol1).codewords ∧ Spec.Spells (encode .eol1) 0x001F ∧
      (encode .eol1).length ≤ 13) := by decide

theorem witness_DecodedCodewordsAreSpelled :
    decode .white 0x8FFF 4 = .instr .w3 ∧ decode (.sync .eol1) 0x001F 13 = .instr .eol1 := by decide

theorem witness_InvalidWindowsAreTheZeroPrefixes :
    ((0x00FF#16).toNat < 0x100 ∧ 0x100 ≤ (0x0100#16).toNat) ∧ (0x03FF#16).toNat < 0x400 ∧ 0x400 ≤ (0x0400#16).toNat := by
  decide

theorem witness_CodewordSetsArePrefixFree :
    Context.ctrl2d ∈ [Context.white, .black, .ctrl2d] ∧ Instr.v0 ∈ Context.ctrl2d.codewords ∧
      Instr.p ∈ Context.ctrl2d.codewords ∧ Instr.v0 ≠ .p ∧ (encode .v0).length ≤ (encode .p).length := by decide

theorem witness_InsertionOrderDoesNotMatter :
    (whiteTerminals ++ whiteMakeups ++ sharedMakeups).reverse.Perm (whiteTerminals ++ whiteMakeups ++ sharedMakeups) ∧
    (blackTerminals ++ blackMakeups ++ sharedMakeups).reverse.Perm (blackTerminals ++ blackMakeups ++ sharedMakeups) ∧
    controlCodes.reverse.Perm controlCodes := ⟨List.reverse_perm _, List.reverse_perm _, List.reverse_perm _⟩

theorem witness_FetchReadsTheStream : Spec.Written (bytes [0xA5, 0x3C]) 2 := by decide

theorem witness_MatchAtTestsAWholeCodeword : Spec.Written (bytes [0x00, 0x18]) 2 ∧ (encode .eol1).wf = true := by decide

theorem witness_AddCodeAppendsItsBits :
    Spec.CleanTail (bytes [0xA8]) 5 ∧ Spec.CleanTail (bytes [0xA8]) 8 ∧
      addCode State.reset.code State.reset.bitpos (encode .v0) = some (bytes [0x80]) := by decide

theorem witness_EmittedCodewordsAreReadBack :
    Instr.w2 ∈ Context.white.codewords ∧ Spec.CleanTail [] 0 ∧ addCode [] 0 (encode .w2) = some (bytes [0x70]) ∧
    Spec.Written (bytes [0x7F]) 1 ∧ 0 + (encode .w2).length ≤ 8 * 1 ∧
    ∀ q, q < 0 + (encode .w2).length → 0 ≤ q → Spec.bit (bytes [0x7F]) q = Spec.bit (bytes [0x70]) q := by decide

/-- A terminal code that ends the row and one that does not. -/
theorem witness_TerminalCodeEndsARunOfA1DRow :
    ((Instr.w8, 8, 5) ∈ Spec.terminalRows .white ∧ Spec.ReadsRun .white (in1D 8 [0x98]) ∧
      (in1D 8 [0x98]).hphase = .none ∧ Spec.Genuine (in1D 8 [0x98]) 5 ∧ ((0 + (0 + 8) : Nat) : Int) ≤ 8) ∧
    ((Instr.b2, 2, 2) ∈ Spec.terminalRows .black ∧
      Spec.ReadsRun .black { in1D 8 [0x8E] with color := .black, col := 3, bitpos := 4 } ∧
      Spec.Genuine { in1D 8 [0x8E] with color := .black, col := 3, bitpos := 4 } 2 ∧
      ((3 + (0 + 2) : Nat) : Int) ≤ 8) := by decide

/-- The first run of the pair `H W3 B3`, and its second. -/
theorem witness_TerminalCodeEndsARunOfAPair :
    ((Instr.w3, 3, 4) ∈ Spec.terminalRows .white ∧
      Spec.InRow { in2D (List.replicate 16 .white) [0x31, 0x40] with bitpos := 3, hphase := .first } ∧
      Spec.Genuine { in2D (List.replicate 16 .white) [0x31, 0x40] with bitpos := 3, hphase := .first } 4 ∧
      ((0 + (0 + 3) : Nat) : Int) ≤ 16) ∧
    ((Instr.b3, 3, 2) ∈ Spec.terminalRows .black ∧
      Spec.InRow { in2D (List.replicate 16 .white) [0x31, 0x40] with
        bitpos := 7, hphase := .second, color := .black, col := 3 } ∧
      Spec.Genuine { in2D (List.replicate 16 .white) [0x31, 0x40] with
        bitpos := 7, hphase := .second, color := .black, col := 3 } 2 ∧
      ((3 + (0 + 3) : Nat) : Int) ≤ 16) := by decide

/-- A white makeup code, and a shared one in black, whose run alone reaches `Columns`. -/
theorem witness_MakeupCodeExtendsTheRun :
    ((Instr.wm64, 64, 5) ∈ Spec.makeupRows .white ∧ Spec.ReadsRun .white (in1D 64 [0xD9, 0xA8]) ∧
      Spec.Genuine (in1D 64 [0xD9, 0xA8]) 5 ∧ ((0 + (0 + 64) : Nat) : Int) ≤ (in1D 64 [0xD9, 0xA8]).cfgColumns) ∧
    ((Instr.xm1792, 1792, 11) ∈ Spec.makeupRows .black ∧
      Spec.ReadsRun .black { in1D 1792 [0x01, 0x00] with color := .black } ∧
      Spec.Genuine { in1D 1792 [0x01, 0x00] with color := .black } 11 ∧ ((0 + (0 + 1792) : Nat) : Int) ≤ 1792) := by
  decide

theorem witness_FillPaintsItsCells : (1 : Nat) ≤ 2 ∧ 1 ≤ (line [true]).length := by decide

/-- `WM64 WM64 W0` (R402). -/
theorem witness_AChainOfRunCodesIsOneRun :
    Spec.IsRun .white [.wm64, .wm64, .w0] 128 ∧ Spec.ReadsRun .white (in1D 128 [0xDE, 0xCD, 0x40]) ∧
      (in1D 128 [0xDE, 0xCD, 0x40]).hphase = .none ∧ (in1D 128 [0xDE, 0xCD, 0x40]).runacc = 0 ∧
      Spec.Genuine (in1D 128 [0xDE, 0xCD, 0x40]) (Spec.bitCount [.wm64, .wm64, .w0]) ∧
      ((0 + 128 : Nat) : Int) ≤ (in1D 128 [0xDE, 0xCD, 0x40]).cfgColumns :=
  ⟨⟨[.wm64, .wm64], .w0, rfl, by decide, by decide, by decide⟩, by decide, by decide, by decide, by decide, by decide⟩

/-- `P` with exactly its four bits, with three, and an encoder in pass mode (R439). -/
theorem witness_PassCode :
    (Spec.ReadsControl { in2D (line [false, true, false, true]) [0x01] with bitpos := 4 } ∧
      Spec.Genuine { in2D (line [false, true, false, true]) [0x01] with bitpos := 4 } 4 ∧
      Spec.WholeReference { in2D (line [false, true, false, true]) [0x01] with bitpos := 4 }) ∧
    (Spec.ReadsControl { in2D (line [false, true]) [0x00] with bitpos := 5 } ∧
      ¬ Spec.Genuine { in2D (line [false, true]) [0x00] with bitpos := 5 } 4) ∧
    (let s := { encoding .decodingRow (-1) (line [false, false, false, false, false, false, true, true]) with
        a0 := -1, ref := line [false, false, true, true, false, false, false, false] }
     selectMode s.a1 s.b1 s.b2 = .pass ∧ s.emit .p = some { s with code := bytes [0x10], bitpos := 4 }) := by decide

theorem witness_HorizontalCodeBeginsAPair :
    Spec.ReadsControl (in2D (List.replicate 16 .white) [0x31, 0x40]) ∧
      Spec.Genuine (in2D (List.replicate 16 .white) [0x31, 0x40]) 3 ∧
      Spec.WholeReference (in2D (List.replicate 16 .white) [0x31, 0x40]) := by decide

/-- `H W3 B3` over sixteen white pixels (R431). -/
theorem witness_AHorizontalPairDrawsTwoRuns_decode :
    Spec.ReadsControl (in2D (List.replicate 16 .white) [0x31, 0x40]) ∧
      Spec.WholeReference (in2D (List.replicate 16 .white) [0x31, 0x40]) ∧
      Spec.IsRun .white [.w3] 3 ∧ Spec.IsRun (Colour.opp .white) [.b3] 3 ∧
      Spec.Genuine (in2D (List.replicate 16 .white) [0x31, 0x40]) (3 + Spec.bitCount [.w3] + Spec.bitCount [.b3]) ∧
      ((3 + 3 : Nat) : Int) ≤ (in2D (List.replicate 16 .white) [0x31, 0x40]).cfgColumns :=
  ⟨by decide, by decide, ⟨[], .w3, rfl, by decide, by decide, by decide⟩,
    ⟨[], .b3, rfl, by decide, by decide, by decide⟩, by decide, by decide⟩

/-- The same line's first coding step, and `BBBBBBBB` over white from `A0 = -1` (R439): runs 0 and 8. -/
theorem witness_AHorizontalPairDrawsTwoRuns_encode :
    (let s := { encoding .decodingRow (-1) (List.replicate 3 .white ++ List.replicate 3 .black ++ List.replicate 10 .white)
        with a0 := -1, ref := List.replicate 16 .white }
     Spec.CleanTail s.code s.bitpos ∧ 3 = findA1 s.cur s.cfgColumns.toNat s.a0 s.color ∧
       6 = findA1 s.cur s.cfgColumns.toNat (3 : Nat) s.color.opp ∧
       16 = findB1 s.ref s.cfgColumns.toNat s.a0 s.color ∧ 16 = findB2 s.ref s.cfgColumns.toNat 16 ∧
       selectMode 3 16 16 = .horizontal ∧
       s.encodeModeStep = some { s with code := bytes [0x31, 0x00], bitpos := 9, a0 := 6, col := 6 }) ∧
    (let s := { encoding .decodingRow (-1) (List.replicate 8 .black) with a0 := -1, ref := List.replicate 8 .white }
     0 = findA1 s.cur s.cfgColumns.toNat s.a0 s.color ∧ 8 = findA1 s.cur s.cfgColumns.toNat (0 : Nat) s.color.opp ∧
       selectMode 0 8 8 = .horizontal ∧ s.encodeModeStep.map (·.code) = some (bytes [0x26, 0xA2, 0x80])) := by decide

/-- `VL1` that acts, `VR1` beyond the line, `VL1` left of it, `VR1` cut, and an encoder in vertical mode with each offset's
first, `VL1` (R439). -/
theorem witness_VerticalCodes :
    ((Instr.vl1, (-1 : Int), 3) ∈ Spec.verticalRows ∧ Spec.ReadsControl (in2D (List.replicate 8 .white) [0x50]) ∧
      Spec.Genuine (in2D (List.replicate 8 .white) [0x50]) 3 ∧ Spec.WholeReference (in2D (List.replicate 8 .white) [0x50]) ∧
      ((7 : Nat) : Int) = (in2D (List.replicate 8 .white) [0x50]).b1 + (-1) ∧
      (in2D (List.replicate 8 .white) [0x50]).a0 < (7 : Nat) ∧ ((7 : Nat) : Int) ≤ 8) ∧
    ((Instr.vr1, (1 : Int), 3) ∈ Spec.verticalRows ∧ Spec.ReadsControl (in2D (List.replicate 8 .white) [0x60]) ∧
      (in2D (List.replicate 8 .white) [0x60]).cfgColumns < (in2D (List.replicate 8 .white) [0x60]).b1 + 1) ∧
    (Spec.ReadsControl (in2D (line [true, false]) [0x40]) ∧ Spec.WholeReference (in2D (line [true, false]) [0x40]) ∧
      Spec.Genuine (in2D (line [true, false]) [0x40]) 3 ∧ 0 ≤ (in2D (line [true, false]) [0x40]).cfgColumns ∧
      (in2D (line [true, false]) [0x40]).b1 + (-1) ≤ (in2D (line [true, false]) [0x40]).a0) ∧
    (Spec.ReadsControl { in2D (List.replicate 8 .white) [0x01] with bitpos := 6 } ∧
      ¬ Spec.Genuine { in2D (List.replicate 8 .white) [0x01] with bitpos := 6 } 3) ∧
    (let s := { encoding .decodingRow (-1) (line [false, true]) with a0 := -1, ref := List.replicate 2 .white }
     selectMode s.a1 s.b1 s.b2 = .vertical (-1) ∧ s.emit .vl1 = some { s with code := bytes [0x40], bitpos := 3 }) := by
  decide

theorem witness_FindA1IsTheNextChange :
    (3 : Nat) ≤ (line [false, true, false]).length ∧ (-1 : Int) ≤ -1 ∧ (-1 : Int) ≤ (3 : Nat) ∧ (3 : Int) ≤ (3 : Nat) ∧
      findA1 (line [false, true, false]) 3 (-1) .white = 1 ∧ findA1 (line [false, true, false]) 3 3 .white = 3 := by decide

/-- A line with both elements, one with only the first, and the position `Columns`. -/
theorem witness_FindB1AndB2AreChangingElements :
    (findB1 (line [false, true, false]) 3 (-1) .white = 1 ∧ findB2 (line [false, true, false]) 3 1 = 2) ∧
    (findB1 (line [false, true, true]) 3 (-1) .white = 1 ∧ findB2 (line [false, true, true]) 3 1 = 3) ∧
    (findB1 (line [false, true, true]) 3 3 .white = 3 ∧ findB2 (line [false, true, true]) 3 3 = 3) := by decide

/-- Six zero bits, and five. -/
theorem witness_InvalidControlCodeIsRaised :
    ((in2D (List.replicate 8 .white) [0x03, 0xFF]).host = [] ∧
      Spec.ReadsControl (in2D (List.replicate 8 .white) [0x03, 0xFF]) ∧
      Spec.Genuine (in2D (List.replicate 8 .white) [0x03, 0xFF]) 16 ∧
      Spec.WindowAt (in2D (List.replicate 8 .white) [0x03, 0xFF]) 0x03FF ∧
      ∀ j, j < 6 → (0x03FF#16).getLsbD (15 - j) = false) ∧
    (Spec.WindowAt (in2D (List.replicate 8 .white) [0x04, 0x00]) 0x0400 ∧
      ¬ ∀ j, j < 6 → (0x0400#16).getLsbD (15 - j) = false) := by decide

/-- Eight zero bits, and seven. -/
theorem witness_InvalidRunCodeIsRaised :
    ((in1D 8 [0x00, 0xFF]).host = [] ∧ Spec.ReadsRun .white (in1D 8 [0x00, 0xFF]) ∧
      Spec.Genuine (in1D 8 [0x00, 0xFF]) 16 ∧ Spec.WindowAt (in1D 8 [0x00, 0xFF]) 0x00FF ∧
      ∀ j, j < 8 → (0x00FF#16).getLsbD (15 - j) = false) ∧
    (Spec.WindowAt (in1D 8 [0x01, 0x00]) 0x0100 ∧ ¬ ∀ j, j < 8 → (0x0100#16).getLsbD (15 - j) = false) := by decide

/-- No codeword on eight zero bits; `W3` on its first bit and padding (R381); a row boundary. -/
theorem witness_BufferExhaustedIsRaised :
    (Spec.WindowAt (in1D 8 [0x00]) 0x0000 ∧ Spec.ReadsRun .white (in1D 8 [0x00]) ∧ ¬ Spec.Genuine (in1D 8 [0x00]) 16 ∧
      ∀ i, i ∈ Context.white.codewords → ¬ Spec.Spells (encode i) 0x0000) ∧
    (Spec.WindowAt { in1D 8 [0x01] with bitpos := 7 } 0x8000 ∧ Spec.ReadsRun .white { in1D 8 [0x01] with bitpos := 7 } ∧
      Instr.w3 ∈ Context.white.codewords ∧ Spec.Spells (encode .w3) 0x8000 ∧
      ¬ Spec.Genuine { in1D 8 [0x01] with bitpos := 7 } (encode .w3).length) ∧
    (Spec.WindowAt { in2D (List.replicate 8 .white) [0x40] with bitpos := 3 } 0x0000 ∧
      Spec.ReadsControl { in2D (List.replicate 8 .white) [0x40] with bitpos := 3 } ∧
      ∀ i, i ∈ Context.ctrl2d.codewords → ¬ Spec.Spells (encode i) 0x0000) ∧
    (Spec.AtBoundary (boundary 0 8 [0x00]) ∧ (boundary 0 8 [0x00]).err = .none ∧
      nextWith (step (boundary 0 8 [0x00])) (fun _ => true) = true) := by decide

/-- `W5` in a line of four, and `VR1` with `b1 = Columns` (R442). -/
theorem witness_RunOutOfRangeIsRaised :
    ((Instr.w5, 5, 4) ∈ Spec.terminalRows .white ++ Spec.makeupRows .white ∧ Spec.ReadsRun .white (in1D 4 [0xC0]) ∧
      Spec.Genuine (in1D 4 [0xC0]) 4 ∧ 0 ≤ (in1D 4 [0xC0]).cfgColumns ∧ (in1D 4 [0xC0]).cfgColumns < ((0 + 0 + 5 : Nat) : Int)) ∧
    ((Instr.vr1, (1 : Int), 3) ∈ Spec.verticalRows ∧ Spec.ReadsControl (in2D (List.replicate 8 .white) [0x60]) ∧
      Spec.Genuine (in2D (List.replicate 8 .white) [0x60]) 3 ∧ Spec.WholeReference (in2D (List.replicate 8 .white) [0x60]) ∧
      0 ≤ (in2D (List.replicate 8 .white) [0x60]).cfgColumns ∧
      (in2D (List.replicate 8 .white) [0x60]).cfgColumns < (in2D (List.replicate 8 .white) [0x60]).b1 + 1) := by decide

theorem witness_EveryErrorIsAnErrorStop :
    (in1D 4 [0xC0]).host = [] ∧ (in1D 4 [0xC0]).busy = true ∧ (in1D 4 [0xC0]).err = .none ∧
      nextWith (step (in1D 4 [0xC0])) (fun t => t.err ≠ .none) = true := by decide

theorem witness_CountMarksCountsCopies :
    Spec.Written (bytes [0x00, 0x10, 0x01]) 3 ∧
      countMarks (bytes [0x00, 0x10, 0x01]) 3 (encode .eol) 6 0 = some 2 ∧
      countMarks (bytes [0x00, 0x10, 0x01]) 3 (encode .eol) 2 0 = some 2 := by decide

/-- Six `EOL`s, as `RTC` stands in a stream. -/
def rtc : List Nat := [0x00, 0x10, 0x01, 0x00, 0x10, 0x01, 0x00, 0x10, 0x01]

/-- Six `EOL1`s. -/
def rtc2D : List Nat := [0x00, 0x18, 0x00, 0xC0, 0x06, 0x00, 0x30, 0x01, 0x80, 0x0C]

/-- One state for each of the seven clauses. -/
theorem witness_SyncCodesAtARowBoundary :
    (Spec.AtBoundary (boundary 0 8 [0x00, 0x19, 0x80]) ∧
      countMarks (bytes [0x00, 0x19, 0x80]) 3 (encode .eol) 6 0 = some 1) ∧
    (Spec.AtBoundary (boundary 0 8 rtc) ∧ countMarks (bytes rtc) 9 (encode .eol) 6 0 = some 6) ∧
    (Spec.AtBoundary (boundary (-1) 8 [0x00, 0x10, 0x01]) ∧
      countMarks (bytes [0x00, 0x10, 0x01]) 3 (encode .eol) 2 0 = some 2) ∧
    (Spec.AtBoundary { boundary 2 8 [0x00, 0x10] with rowidx := 1 } ∧ ¬ Spec.RowIs1D 2 1) ∧
    (Spec.AtBoundary (boundary 2 8 [0x00, 0x18]) ∧ Spec.RowIs1D 2 0 ∧
      countMarks (bytes [0x00, 0x18]) 2 (encode .eol1) 6 0 = some 1) ∧
    countMarks (bytes rtc2D) 10 (encode .eol1) 6 0 = some 6 ∧
    (Spec.AtBoundary { boundary 2 8 [0x00, 0x18] with rowidx := 1 } ∧
      ({ boundary 2 8 [0x00, 0x18] with rowidx := 1 } : State).cfgFlags.getLsbD 0 = false) := by decide

theorem witness_DecodeAtARowBoundary :
    (boundary 0 8 rtc).host = [] ∧ Spec.AtBoundary (boundary 0 8 rtc) ∧
      Spec.Written (boundary 0 8 rtc).code (boundary 0 8 rtc).codeLen.toNat := by decide

/-- A 1D row and a 2D row. -/
theorem witness_ARowBeginsInWhite :
    (Spec.AtBoundary (boundary 0 8 [0x98]) ∧
      nextWith (step (boundary 0 8 [0x98])) (fun t => t.fstate = .decodingRow) = true) ∧
    (Spec.AtBoundary (boundary (-1) 8 [0x80]) ∧
      nextWith (step (boundary (-1) 8 [0x80])) (fun t => t.fstate = .decodingRow ∧ t.a0 = -1) = true) := by decide

theorem witness_DecodeRowComplete :
    (let s := { boundary 0 2 [0x98] with fstate := .rowComplete, cur := line [true, false] }
     s.host = [] ∧ s.busy = true ∧ s.dirl = .decode ∧ s.fstate = .rowComplete ∧ s.params.pixBytes = none ∧
       s.cfgColumns = ((2 : Nat) : Int) ∧ 2 ≤ s.cur.length) := by decide

theorem witness_EncodeRowComplete :
    (encoding .rowComplete 0 (line [true])).host = [] ∧
      Spec.Encoding .rowComplete (encoding .rowComplete 0 (line [true])) ∧
      (encoding .rowComplete 0 (line [true])).cfgColumns = ((1 : Nat) : Int) ∧
      1 ≤ (encoding .rowComplete 0 (line [true])).cur.length := by decide

theorem witness_EncodeCallEnds :
    (let s := { encoding .awaitingSync 0 (line [true]) with rowidx := 1, cfgFlags := 4, bitpos := 3, code := bytes [0xE0] }
     s.host = [] ∧ Spec.Encoding .awaitingSync s ∧ s.rowidx = s.nrows ∧ s.params.codeBytes = none ∧
       Spec.CleanTail s.code s.bitpos) := by decide

theorem witness_EncodeRowBegins :
    (let s := { encoding .awaitingSync 0 (line [true]) with cfgFlags := 1, pix := bytes [0] }
     s.host = [] ∧ Spec.Encoding .awaitingSync s ∧ s.rowidx ≠ s.nrows ∧ s.params.codeBytes = none ∧
       Spec.CleanTail s.code s.bitpos ∧ s.cfgColumns = ((1 : Nat) : Int) ∧ (line [true]).length = 1 ∧
       ∀ c, c < 1 → s.pix.read (s.rowidx * 1 + c) =
         ((line [true])[c]?).map (Spec.sentinel (s.cfgFlags.getLsbD 3))) := by decide

theorem witness_A1DRowIsCodedRunByRun_step :
    (let s := encoding .decodingRow 2 (line [true])
     s.host = [] ∧ Spec.Encoding .decodingRow s ∧ Spec.RowIs1D s.cfgK s.rowidx ∧ s.params.codeBytes = none) := by decide

theorem witness_A1DRowIsCodedRunByRun :
    (1 : Nat) ≤ 1 ∧ (encoding .decodingRow 0 (line [true])).cfgColumns = ((1 : Nat) : Int) ∧
      1 ≤ (encoding .decodingRow 0 (line [true])).cur.length ∧
      Spec.CleanTail (encoding .decodingRow 0 (line [true])).code 0 := by decide

/-- The row `B` of one column (R401): `W0 B1`. -/
theorem witness_A1DRowDecodesToItsLine :
    (let s := encoding .decodingRow 0 (line [true])
     let d := in1D 1 [0x35, 0x40]
     1 ≤ s.cfgColumns ∧ s.cfgColumns ≤ s.cur.length ∧ Spec.CleanTail s.code s.bitpos ∧
       s.encodeRow1D = some { s with code := bytes [0x35, 0x40], bitpos := 11, col := 1 } ∧
       d.host = [] ∧ Spec.InRow d ∧ d.hphase = .none ∧ Spec.RowIs1D d.cfgK d.rowidx ∧ d.color = .white ∧ d.col = 0 ∧
       d.runacc = 0 ∧ d.bitpos = s.bitpos ∧ d.cfgColumns = s.cfgColumns ∧ Spec.Written d.code d.codeLen.toNat ∧
       ((11 : Nat) : Int) ≤ 8 * d.codeLen ∧
       ∀ q, q < 11 → s.bitpos ≤ q → Spec.bit d.code q = Spec.bit (bytes [0x35, 0x40]) q) := by decide

/-- A 2D row of a `K > 0` call is due. -/
theorem witness_A2DRowDecodesToItsLine_encode :
    (let s := { encoding .decodingRow 2 (line [true]) with ref := line [false], rowidx := 1, nrows := 2 }
     s.host = [] ∧ Spec.Encoding .decodingRow s ∧ ¬ Spec.RowIs1D s.cfgK s.rowidx ∧ s.params.codeBytes = none ∧
       1 ≤ s.cfgColumns ∧ s.cfgColumns ≤ s.cur.length ∧ s.cfgColumns ≤ s.ref.length ∧
       Spec.CleanTail s.code s.bitpos ∧ nextWith (step s) (fun t => t.code = bytes [0x50] ∧ t.bitpos = 4) = true) := by
  decide

/-- The row `B` over `W` (R439): `VL1 V0`. -/
theorem witness_A2DRowDecodesToItsLine :
    (let s := { encoding .decodingRow (-1) (line [true]) with ref := line [false] }
     let d := in2D (line [false]) [0x50]
     1 ≤ s.cfgColumns ∧ s.cfgColumns ≤ s.cur.length ∧ s.cfgColumns ≤ s.ref.length ∧ Spec.CleanTail s.code s.bitpos ∧
       s.encodeRow2D = some { s with code := bytes [0x50], bitpos := 4, a0 := 1, col := 1 } ∧
       d.host = [] ∧ Spec.ReadsControl d ∧ d.color = .white ∧ d.a0 = -1 ∧ d.col = 0 ∧ d.bitpos = s.bitpos ∧
       d.cfgColumns = s.cfgColumns ∧ d.ref = s.ref ∧ Spec.Written d.code d.codeLen.toNat ∧
       ((4 : Nat) : Int) ≤ 8 * d.codeLen ∧
       ∀ q, q < 4 → s.bitpos ≤ q → Spec.bit d.code q = Spec.bit (bytes [0x50]) q) := by decide

/-- An idle block with a bitmap and a stream of one row. -/
def ready : State :=
  { State.reset with cfgColumns := 2, pixRows := 1, pix := bytes [1, 0], codeLen := 1, code := bytes [0x98] }

theorem witness_EncodeCallCompletes :
    ready.host = [] ∧ ready.params = ⟨none, none, none⟩ ∧ ready.notAdmitted .encode = none := by decide

theorem witness_DecodeCallTerminates :
    ready.host = [] ∧ ready.params = ⟨none, none, none⟩ ∧ ready.notAdmitted .decode = none := by decide

/-- A frame step, a START and a reset. -/
theorem witness_FrameStateTransitions :
    ((boundary 0 8 [0x98]).StatusConsistent ∧
      nextWith (step (boundary 0 8 [0x98])) (fun t => t.fstate = .decodingRow) = true) ∧
    (({ ready with host := [.access (.writeReg 0 3)] } : State).StatusConsistent ∧
      nextWith (step { ready with host := [.access (.writeReg 0 3)] }) (fun t => t.fstate = .awaitingSync) = true) ∧
    ({ boundary 0 8 [0x98] with host := [.reset] } : State).StatusConsistent := by decide

/-- A step of a call in each direction; a read of `STATUS` is one too. -/
theorem witness_CallsKeepTheirInputs :
    ((in1D 8 [0x98]).busy = true ∧ (in1D 8 [0x98]).host.head? ≠ some .reset ∧ (in1D 8 [0x98]).dirl = .decode ∧
      nextWith (step (in1D 8 [0x98])) (fun _ => true) = true) ∧
    (let s := { encoding .decodingRow 0 (line [true]) with host := [.access (.readReg 1)] }
     s.busy = true ∧ s.host.head? ≠ some .reset ∧ s.dirl = .encode ∧ nextWith (step s) (fun _ => true) = true) := by decide

theorem witness_EncodeCallsRaiseNothing :
    (encoding .decodingRow 0 (line [true])).busy = true ∧ (encoding .decodingRow 0 (line [true])).dirl = .encode ∧
      (encoding .decodingRow 0 (line [true])).host.head? ≠ some .reset ∧
      nextWith (step (encoding .decodingRow 0 (line [true]))) (fun _ => true) = true := by decide

theorem witness_TheCursorNeverMovesBack :
    (in1D 8 [0x98]).busy = true ∧ (in1D 8 [0x98]).host.head? ≠ some .reset ∧
      nextWith (step (in1D 8 [0x98])) (fun t => t.bitpos = 5) = true := by decide

/-- Inside a row, and at a row boundary. -/
theorem witness_AStepRunsTheDecodedCodeword :
    ((in1D 8 [0x98]).host = [] ∧ (in1D 8 [0x98]).context = some .white ∧
      fetchNextCode (in1D 8 [0x98]).code (in1D 8 [0x98]).codeBytes (in1D 8 [0x98]).bitpos = some ⟨0x9800, 8, 8⟩ ∧
      decode .white 0x9800 8 = .instr .w8) ∧
    ((boundary 0 8 [0x00, 0x10]).context = some (.sync .eol) ∧
      (boundary 0 8 [0x00, 0x10]).bitpos < 8 * (boundary 0 8 [0x00, 0x10]).codeBytes ∧
      decode (.sync .eol) 0x0010 16 = .instr .eol) := by decide

/-- A busy block, then an idle one with each kind of move; registers at the ends of the ranges the clauses name. -/
theorem witness_HostAccessRules :
    (let s := { in1D 8 [0x98] with host := [.access (.writeReg 2 1)] }
     s.busy = true ∧ s.host = .access (.writeReg 2 1) :: [] ∧ Access.writeReg 2 1 ≠ .readReg 1) ∧
    nextWith (step { in1D 8 [0x98] with host := [.access (.readReg 1)] }) (fun t => t.hostData = 37) = true ∧
    (ready.busy = false ∧ ready.params.codeBytes = none ∧ ready.params.pixBytes = none ∧
      ready.code.read 0 = some 0x98#8 ∧ ready.pix.read 1 = some 0#8) ∧
    nextWith (step { ready with host := [.access (.writeReg 1 7)] }) (fun t => t.host = []) = true ∧
    nextWith (step { ready with host := [.access (.writeReg 9 7)] }) (fun t => t.bitpos = 0) = true ∧
    nextWith (step { ready with host := [.access (.readReg 0)] }) (fun t => t.hostData = 0) = true ∧
    nextWith (step { ready with host := [.access (.readReg 9)] }) (fun t => t.hostData = 0) = true ∧
    (∀ n, n < 10 → nextWith (step { ready with host := [.access (.readReg n)] }) (fun t =>
      some t.hostData = [0, 0, 0, 0, 0, 2, 0, 1, 1, 0][n]?) = true) ∧
    nextWith (step { ready with host := [.access (.writeReg 2 7)] }) (fun t => t.cfgK = 7) = true ∧
    nextWith (step { ready with host := [.access (.writeReg 3 (-1))] }) (fun t => t.cfgFlags = 15) = true ∧
    nextWith (step { ready with host := [.access (.writeReg 4 7)] }) (fun t => t.cfgDamaged = 7) = true ∧
    nextWith (step { ready with host := [.access (.writeReg 5 7)] }) (fun t => t.cfgColumns = 7) = true ∧
    nextWith (step { ready with host := [.access (.writeReg 6 7)] }) (fun t => t.cfgRows = 7) = true ∧
    nextWith (step { ready with host := [.access (.writeReg 7 7)] }) (fun t => t.codeLen = 7) = true ∧
    nextWith (step { ready with host := [.access (.writeReg 8 7)] }) (fun t => t.pixRows = 7) = true ∧
    nextWith (step { ready with host := [.access (.writeMem .code 3 1)] }) (fun t => t.code.read 3 = some 1#8) = true ∧
    nextWith (step { ready with host := [.access (.writeMem .pix 3 1)] }) (fun t => t.pix.read 3 = some 1#8) = true ∧
    nextWith (step { ready with host := [.access (.readMem .code 0)] }) (fun t => t.hostData = 0x98) = true ∧
    nextWith (step { ready with host := [.access (.readMem .pix 1)] }) (fun t => t.hostData = 0) = true := by decide

/-- The first and the last register the host may write, and `CFG_FLAGS` with a reserved bit set. -/
theorem witness_WrittenRegistersReadBack :
    (let s := { ready with host := [.access (.writeReg 2 (-1)), .access (.readReg 2)] }
     s.busy = false ∧ nextWith (run 2 s) (fun t => t.hostData = -1) = true) ∧
    nextWith (run 2 { ready with host := [.access (.writeReg 3 0x1F), .access (.readReg 3)] })
      (fun t => t.hostData = 15) = true ∧
    nextWith (run 2 { ready with host := [.access (.writeReg 8 7), .access (.readReg 8)] })
      (fun t => t.hostData = 7) = true := by decide

theorem witness_StatusWordFields :
    (FState.rowComplete, 3) ∈
      [(FState.idle, 0), (.awaitingSync, 1), (.decodingRow, 2), (.rowComplete, 3), (.terminated, 4)] ∧
    (ErrKind.none, 0) ∈ [(ErrKind.none, 0), (.invalidControlCode, 1), (.invalidRunCode, 2), (.missingEOL, 3),
      (.corruptTerminatorRTC, 4), (.corruptTerminatorEOFB, 5), (.bufferExhausted, 6), (.runOutOfRange, 7)] := by decide

/-- Admitted in both directions, refused in one, and no START (R27: `DIR` alone is ignored). -/
theorem witness_StartAdmission :
    (let s := { ready with host := [.access (.writeReg 0 2)] }
     s.busy = false ∧ (2 : Int) % 2 = 0 ∧ nextWith (step s) (fun t => t = { ready with host := [] }) = true) ∧
    (let s := { ready with host := [.access (.writeReg 0 1)] }
     s.params = ⟨none, none, none⟩ ∧ (1 : Int) % 4 = 1 ∧ nextWith (step s) (fun _ => true) = true) ∧
    (let s := { ready with host := [.access (.writeReg 0 3)] }
     s.params = ⟨none, none, none⟩ ∧ (3 : Int) % 4 = 3 ∧ nextWith (step s) (fun _ => true) = true) ∧
    refusedFor (step { ready with codeLen := 2, host := [.access (.writeReg 0 3)] }) (.startNotAdmitted .f) = true := by
  decide

theorem witness_StartEncodeState :
    (let s := { ready with host := [.access (.writeReg 0 5)] }
     s.host = .access (.writeReg 0 5) :: [] ∧ (5 : Int) % 4 = 1 ∧ s.notAdmitted .encode = none) := by decide

theorem witness_StartDecodeState :
    (let s := { ready with cfgK := -1, host := [.access (.writeReg 0 3)] }
     s.host = .access (.writeReg 0 3) :: [] ∧ (3 : Int) % 4 = 3 ∧ s.notAdmitted .decode = none) := by decide

theorem witness_AnIdleEngineDoesNothing : ready.busy = false ∧ ready.host = [] := by decide

theorem witness_ResetLeavesTheSpecsValues :
    ({ in1D 8 [0x98] with host := [.reset] } : State).host = .reset :: [] := by decide

theorem witness_SentinelConversion : (0x02#8) ≠ 0x00#8 ∧ (0x02#8) ≠ 0x01#8 := by decide

/-- A decode call inside a row that is sound and takes a step. -/
theorem witness_EveryStepKeepsSoundness :
    (in1D 8 [0x98]).Sound ∧ nextWith (step (in1D 8 [0x98])) (fun _ => true) = true := by
  refine ⟨⟨by decide, by decide, by decide, by decide, by decide, by decide, by decide, by decide, by decide,
    fun _ h => ?_⟩, by decide⟩
  exact absurd h (by decide)

theorem witness_ASoundEngineNeverStops :
    (in1D 8 [0x98]).Sound ∧ (in1D 8 [0x98]).host = [] ∧ (in1D 8 [0x98]).params = ⟨none, none, none⟩ :=
  ⟨witness_EveryStepKeepsSoundness.1, by decide, by decide⟩

theorem witness_EveryStepKeepsMemoriesCanonical :
    (in1D 8 [0x98]).MemoriesCanonical ∧ nextWith (step (in1D 8 [0x98])) (fun _ => true) = true := by decide

end Sys2Proof.Tests
end

section
/-! What reset leaves (10_state.md R43), in the state after reset and after the host's reset move (R580). -/

namespace Sys2Proof.Proofs

open Sys2Proof.Machine

/-- R43's values, field by field of the state after reset. -/
theorem resetValues_reset : Spec.ResetValues State.reset :=
  ⟨rfl, rfl, rfl, rfl, rfl, rfl, rfl, rfl, rfl, rfl, rfl, rfl, rfl⟩

/-- Of the fields R43 gives a value for, resetting the block keeps nothing of the state before. -/
theorem resetValues_resetBlock (s : State) : Spec.ResetValues s.resetBlock := by
  simpa only [Spec.ResetValues, State.resetBlock_busy, State.resetBlock_done, State.resetBlock_dirl,
    State.resetBlock_fstate, State.resetBlock_err, State.resetBlock_cfgK, State.resetBlock_cfgFlags,
    State.resetBlock_cfgDamaged, State.resetBlock_cfgColumns, State.resetBlock_cfgRows,
    State.resetBlock_codeLen, State.resetBlock_pixRows, State.resetBlock_bitpos] using resetValues_reset

/-- The host's reset is taken whatever the engine is doing, a call in progress included (R580). -/
theorem step_hostReset {s : State} {rest : List HostMove} (hhost : s.host = .reset :: rest) :
    step s = .next { s with host := rest }.resetBlock := by
  simp only [step, State.machineStep, hhost, State.hostMove]

/-- Settles O55: the host's reset is one step to the reset block, which holds the values of the reset state. -/
theorem resetLeavesTheSpecsValues : Obligations.ResetLeavesTheSpecsValues := by
  refine ⟨resetValues_reset, fun s rest hhost => ?_⟩
  exact ⟨{ s with host := rest }.resetBlock, step_hostReset hhost, resetValues_resetBlock _⟩

end Sys2Proof.Proofs
end


section
/-! The sentinel conversion (20_memory.md R66): `toColour` inverts `toByte`, and its domain is the two sentinels. -/

namespace Sys2Proof.Proofs

open Sys2Proof.Machine

/-- Under either setting of `BlackIs1` the two colours have different sentinels. -/
theorem toByte_white_ne_black (b : Bool) : toByte b .white ≠ toByte b .black := by
  cases b with
  | true => decide
  | false => decide

/-- The sentinels are the bytes `0x00` and `0x01`. -/
theorem toByte_eq_zero_or_one (b : Bool) (c : Colour) : toByte b c = 0x00#8 ∨ toByte b c = 0x01#8 := by
  cases b with
  | true => cases c with
    | white => exact .inl rfl
    | black => exact .inr rfl
  | false => cases c with
    | white => exact .inr rfl
    | black => exact .inl rfl

@[simp] theorem toColour_toByte (b : Bool) (c : Colour) : toColour b (toByte b c) = some c := by
  cases c with
  | white => exact if_pos rfl
  | black => simp [toColour, (toByte_white_ne_black b).symm]

/-- A byte has a colour exactly when it is that colour's sentinel. -/
theorem toColour_eq_some_iff {b : Bool} {v : Byte} {c : Colour} : toColour b v = some c ↔ v = toByte b c := by
  refine ⟨fun hcolour => ?_, fun hbyte => hbyte ▸ toColour_toByte b c⟩
  unfold toColour at hcolour
  split at hcolour
  case isTrue hwhite => cases hcolour; exact hwhite
  case isFalse =>
    split at hcolour
    case isTrue hblack => cases hcolour; exact hblack
    case isFalse => cases hcolour

theorem toColour_eq_none_of_ne {b : Bool} {v : Byte} (hzero : v ≠ 0x00#8) (hone : v ≠ 0x01#8) :
    toColour b v = none := by
  refine Option.eq_none_iff_forall_ne_some.mpr fun c hcolour => ?_
  have hbyte : v = toByte b c := toColour_eq_some_iff.mp hcolour
  rcases toByte_eq_zero_or_one b c with hsentinel | hsentinel
  · exact hzero (hbyte.trans hsentinel)
  · exact hone (hbyte.trans hsentinel)

/-- Settles O56: the four sentinels by evaluation, the inverse and the refusal from the lemmas on `toColour`. -/
theorem sentinelConversion : Obligations.SentinelConversion :=
  ⟨rfl, rfl, rfl, rfl, toColour_toByte, fun _ _ => toColour_eq_none_of_ne⟩

end Sys2Proof.Proofs
end

section
/-! The prefix property (30_encoding.md R127) from the trees: every codeword of a context hangs as a leaf of the
context's tree, `lookup` finds that leaf in any window that begins with the codeword, and it answers one codeword. -/

namespace Sys2Proof.Proofs

/-- The subtree reached from a node by `k` bits of a window, the first of them bit `15 - j`. -/
def follow (w : Word) : (k j : Nat) → Tree → Tree
  | 0, _, t => t
  | _ + 1, _, .absent => .absent
  | k + 1, j, .node _ l r => follow w k (j + 1) (if w.getLsbD (15 - j) then r else l)

/-- A codeword's own bits lead from the root to a leaf that bears it. -/
def HangsIn (t : Tree) (i : Instr) : Prop :=
  (encode i).length ≤ 16 ∧ follow (encode i).codeword (encode i).length 0 t = .leaf i

/-- Only the bits that are followed matter. -/
theorem follow_congr {v w : Word} {k j : Nat} (t : Tree)
    (hbits : ∀ n, j ≤ n → n < j + k → w.getLsbD (15 - n) = v.getLsbD (15 - n)) : follow w k j t = follow v k j t := by
  induction k generalizing j t with
  | zero => rfl
  | succ k ih =>
    cases t with
    | absent => rfl
    | node p l r =>
      have hbit : w.getLsbD (15 - j) = v.getLsbD (15 - j) := hbits j le_rfl (by omega)
      rw [follow, follow, hbit]
      exact ih _ fun n hle hlt => hbits n (by omega) (by omega)

@[simp] theorem walk_leaf (w : Word) (i : Instr) (j : Nat) (best : Option Instr) :
    (Tree.leaf i).walk w j best = some i := by
  simp [Tree.leaf, Tree.walk]

/-- The walk of R363 goes where the bits lead, so a leaf on the way is its answer, whatever it met before. -/
theorem walk_of_follow_eq_leaf {w : Word} {i : Instr} {k j : Nat} {t : Tree} (best : Option Instr)
    (hfield : j + k ≤ 16) (hleaf : follow w k j t = .leaf i) : t.walk w j best = some i := by
  induction k generalizing j t best with
  | zero =>
    obtain rfl : t = .leaf i := hleaf
    exact walk_leaf w i j best
  | succ k ih =>
    cases t with
    | absent => cases hleaf
    | node p l r =>
      rw [follow] at hleaf
      have hwalk := ih (p.or best) (by omega) hleaf
      rw [Tree.walk, if_neg (by omega)]
      split at hwalk
      case isTrue hone => rwa [if_pos hone]
      case isFalse hzero => rwa [if_neg hzero]

/-- `lookup` reads a codeword of the tree from every window that begins with its bits. -/
theorem lookup_of_spells {t : Tree} {i : Instr} {w : Word} (hhangs : HangsIn t i) (hspells : Spec.Spells (encode i) w) :
    lookup t w 0 = some i := by
  obtain ⟨hfield, hleaf⟩ := hhangs
  have hfollow : follow w (encode i).length 0 t = .leaf i :=
    (follow_congr t fun n _ hlt => hspells n (by omega)).trans hleaf
  exact walk_of_follow_eq_leaf none (by omega) hfollow

/-- If `j`'s field began with `i`'s bits, `lookup` would read both codewords from it. -/
theorem not_spells_of_hangsIn {t : Tree} {i j : Instr} (hi : HangsIn t i) (hj : HangsIn t j) (hne : i ≠ j) :
    ¬ Spec.Spells (encode i) (encode j).codeword := by
  intro hspells
  have hreadI : lookup t (encode j).codeword 0 = some i := lookup_of_spells hi hspells
  have hreadJ : lookup t (encode j).codeword 0 = some j := lookup_of_spells hj fun _ _ => rfl
  exact hne (Option.some.inj (hreadI.symm.trans hreadJ))

theorem hangsIn_whiteTree : ∀ i, i ∈ Context.white.codewords → HangsIn whiteTree i := by
  unfold HangsIn; decide

theorem hangsIn_blackTree : ∀ i, i ∈ Context.black.codewords → HangsIn blackTree i := by
  unfold HangsIn; decide

theorem hangsIn_ctrlTree : ∀ i, i ∈ Context.ctrl2d.codewords → HangsIn ctrlTree i := by
  unfold HangsIn; decide

/-- The contents of each tree context (R364) hang in one tree. -/
theorem exists_tree_of_treeContext {c : Context} (hc : c ∈ [Context.white, .black, .ctrl2d]) :
    ∃ t, ∀ i, i ∈ c.codewords → HangsIn t i := by
  simp only [List.mem_cons, List.not_mem_nil, or_false] at hc
  obtain rfl | rfl | rfl := hc
  · exact ⟨whiteTree, hangsIn_whiteTree⟩
  · exact ⟨blackTree, hangsIn_blackTree⟩
  · exact ⟨ctrlTree, hangsIn_ctrlTree⟩

/-- Settles O4: two codewords of one tree without a differing bit would both be what `lookup` reads from the second. -/
theorem codewordSetsArePrefixFree : Obligations.CodewordSetsArePrefixFree := by
  intro c hc i hi j hj hne _
  obtain ⟨t, hhangs⟩ := exists_tree_of_treeContext hc
  have hdiffers := not_spells_of_hangsIn (hhangs i hi) (hhangs j hj) hne
  simp only [Spec.Spells, not_forall] at hdiffers
  obtain ⟨k, hlt, hbit⟩ := hdiffers
  exact ⟨k, hlt, fun hsame => hbit hsame.symm⟩

end Sys2Proof.Proofs
end

section
/-! The three trees (44_decoding_tree.md R364) from `insert` (R362): below a branch, inserting a list of codewords is
inserting those with a 0 bit there on the left and those with a 1 bit on the right, in the order they had. So a tree is
built from a list that it sorts, bit by bit, down to one codeword at each leaf. -/

namespace Sys2Proof.Proofs

/-- Bit `j` of a codeword's field, the first being bit 0: the side taken below a node of depth `j`. -/
def branchBit (j : Nat) (i : Instr) : Bool := (encode i).codeword.getLsbD (15 - j)

/-- `Tree.insert` from a node of depth `j` on. -/
def insertAt (j : Nat) (t : Tree) (i : Instr) : Tree :=
  t.insertFrom (encode i).codeword i ((encode i).length - j) j

/-- The codewords `codes`, given at depth `j`, are sorted by `t`: a branch is where every one of them has a further bit
and that bit sends them left or right, a leaf is where one of them ends, and no node is without a codeword. -/
def sorts : Tree → (j : Nat) → (codes : List Instr) → Bool
  | .absent, _, codes => codes == []
  | .node (some i) l r, j, codes => codes == [i] && (encode i).length == j && l == .absent && r == .absent
  | .node none l r, j, codes =>
    codes != [] && codes.all (fun i => j < (encode i).length) &&
      sorts l (j + 1) (codes.filter (fun i => !branchBit j i)) && sorts r (j + 1) (codes.filter (branchBit j))

theorem build_eq_foldl_insertAt (codes : List Instr) : Tree.build codes = codes.foldl (insertAt 0) .empty := rfl

theorem insertAt_absent_of_length_eq {i : Instr} {j : Nat} (hend : (encode i).length = j) :
    insertAt j .absent i = .leaf i := by
  simp [insertAt, hend, Tree.insertFrom, Tree.leaf]

/-- One more bit is left to `insert`. -/
theorem length_sub_eq_succ {i : Instr} {j : Nat} (hlt : j < (encode i).length) :
    (encode i).length - j = ((encode i).length - (j + 1)) + 1 := by omega

/-- `insert` creates a missing node on its way as an empty one. -/
theorem insertAt_absent_of_lt {i : Instr} {j : Nat} (hlt : j < (encode i).length) :
    insertAt j .absent i = insertAt j .empty i := by
  simp only [insertAt, length_sub_eq_succ hlt, Tree.insertFrom, Tree.empty]

theorem insertAt_node_of_lt {i : Instr} {j : Nat} (hlt : j < (encode i).length) (p : Option Instr) (l r : Tree) :
    insertAt j (.node p l r) i =
      if branchBit j i then .node p l (insertAt (j + 1) r i) else .node p (insertAt (j + 1) l i) r := by
  rw [insertAt, length_sub_eq_succ hlt]
  rfl

/-- Inserting below a branch does each side by itself. -/
theorem foldl_insertAt_node {codes : List Instr} {j : Nat} (hlt : ∀ i ∈ codes, j < (encode i).length)
    (p : Option Instr) (l r : Tree) :
    codes.foldl (insertAt j) (.node p l r) =
      .node p ((codes.filter fun i => !branchBit j i).foldl (insertAt (j + 1)) l)
        ((codes.filter (branchBit j)).foldl (insertAt (j + 1)) r) := by
  induction codes generalizing l r with
  | nil => rfl
  | cons i codes ih =>
    obtain ⟨hi, hcodes⟩ := List.forall_mem_cons.mp hlt
    rw [List.foldl_cons, insertAt_node_of_lt hi]
    cases hbit : branchBit j i with
    | true => simp [hbit, ih hcodes]
    | false => simp [hbit, ih hcodes]

/-- It makes no difference whether the node the codewords pass is there already. -/
theorem foldl_insertAt_absent {codes : List Instr} {j : Nat} (hne : codes ≠ [])
    (hlt : ∀ i ∈ codes, j < (encode i).length) :
    codes.foldl (insertAt j) .absent = codes.foldl (insertAt j) .empty := by
  cases codes with
  | nil => exact absurd rfl hne
  | cons i codes => rw [List.foldl_cons, List.foldl_cons, insertAt_absent_of_lt (hlt i List.mem_cons_self)]

/-- What `sorts` says of a payload node: it is a leaf, and the one codeword left ends there. -/
theorem sorts_payload_iff {i : Instr} {l r : Tree} {j : Nat} {codes : List Instr} :
    sorts (.node (some i) l r) j codes ↔ codes = [i] ∧ (encode i).length = j ∧ l = .absent ∧ r = .absent := by
  simp [sorts, and_assoc]

/-- What `sorts` says of a branch. -/
theorem sorts_fork_iff {l r : Tree} {j : Nat} {codes : List Instr} :
    sorts (.fork l r) j codes ↔ codes ≠ [] ∧ (∀ i ∈ codes, j < (encode i).length) ∧
      sorts l (j + 1) (codes.filter fun i => !branchBit j i) ∧ sorts r (j + 1) (codes.filter (branchBit j)) := by
  simp [Tree.fork, sorts, and_assoc]

/-- A tree that sorts the codewords is what `insert` makes of them where there is no node yet. -/
theorem foldl_insertAt_of_sorts {t : Tree} {j : Nat} {codes : List Instr} (hsorts : sorts t j codes) :
    codes.foldl (insertAt j) .absent = t := by
  induction t generalizing j codes with
  | absent =>
    obtain rfl : codes = [] := by simpa [sorts] using hsorts
    rfl
  | node p l r ihl ihr =>
    cases p with
    | some i =>
      obtain ⟨rfl, hend, rfl, rfl⟩ := sorts_payload_iff.mp hsorts
      exact insertAt_absent_of_length_eq hend
    | none =>
      obtain ⟨hne, hlt, hleft, hright⟩ := sorts_fork_iff.mp hsorts
      rw [foldl_insertAt_absent hne hlt, Tree.empty, foldl_insertAt_node hlt, ihl hleft, ihr hright]

/-- A branching tree is built from any list of codewords that it sorts. -/
theorem build_eq_of_sorts {l r : Tree} {codes : List Instr} (hsorts : sorts (.fork l r) 0 codes) :
    Tree.build codes = .fork l r := by
  obtain ⟨hne, hlt, -, -⟩ := sorts_fork_iff.mp hsorts
  calc Tree.build codes
      = codes.foldl (insertAt 0) .absent := (foldl_insertAt_absent hne hlt).symm
    _ = .fork l r := foldl_insertAt_of_sorts hsorts

theorem sorts_whiteTree : sorts whiteTree 0 (whiteTerminals ++ whiteMakeups ++ sharedMakeups) := by decide

theorem sorts_blackTree : sorts blackTree 0 (blackTerminals ++ blackMakeups ++ sharedMakeups) := by decide

theorem sorts_ctrlTree : sorts ctrlTree 0 controlCodes := by decide

/-- D14: the run length stored with a control code is the placeholder. -/
theorem runLength_controlCode : ∀ i, i ∈ controlCodes → i.runLength = 0 := by decide

/-- The sync codes are in no tree: they are read in their own contexts (30_encoding.md R92). -/
theorem syncCode_not_mem_treeContext :
    ∀ i, i ∈ [Instr.eol, .eol0, .eol1] → ∀ c, c ∈ [Context.white, .black, .ctrl2d] → i ∉ c.codewords := by decide

/-- Settles O5: each tree sorts the codewords its context lists; the sizes and the exclusions are read off the lists. -/
theorem treesAreWhatInsertBuilds : Obligations.TreesAreWhatInsertBuilds :=
  ⟨(build_eq_of_sorts sorts_whiteTree).symm, (build_eq_of_sorts sorts_blackTree).symm,
    (build_eq_of_sorts sorts_ctrlTree).symm, rfl, rfl, runLength_controlCode, syncCode_not_mem_treeContext⟩

end Sys2Proof.Proofs
end

section
/-! Fetching a window (45_bitstream_primitives.md R380): the loop shifts the stream's bits in from the right, so after
16 turns the first of them stands in bit 15. -/

namespace Sys2Proof.Proofs

open Sys2Proof.Machine

theorem streamBit_of_lt {n q : Nat} (m : Memory) (hlt : q < 8 * n) : streamBit m n q = Spec.bit m q := if_pos hlt

theorem streamBit_of_le {n q : Nat} (m : Memory) (hle : 8 * n ≤ q) : streamBit m n q = some false :=
  if_neg (by omega)

/-- Where the code bytes have been written, every bit of the stream can be read, past its end included. -/
theorem exists_streamBit {m : Memory} {n : Nat} (hwritten : Spec.Written m n) (q : Nat) :
    ∃ b, streamBit m n q = some b := by
  rcases Nat.lt_or_ge q (8 * n) with hlt | hle
  · obtain ⟨v, hread⟩ := Option.isSome_iff_exists.mp (hwritten (q / 8) (by omega))
    exact ⟨v.getLsbD (7 - q % 8), by rw [streamBit_of_lt m hlt, Spec.bit, hread, Option.map_some]⟩
  · exact ⟨false, streamBit_of_le m hle⟩

/-- A bit shifted into a word from the right becomes its bit 0. -/
theorem getLsbD_zero_shiftIn (w : Word) (b : Bool) : ((w <<< 1) ||| (BitVec.ofBool b).setWidth 16).getLsbD 0 = b := by
  simp

/-- The bits that were there move up by one. -/
theorem getLsbD_succ_shiftIn (w : Word) (b : Bool) {j : Nat} (hj : j + 1 < 16) :
    ((w <<< 1) ||| (BitVec.ofBool b).setWidth 16).getLsbD (j + 1) = w.getLsbD j := by
  simp [hj, BitVec.getLsbD_eq_getElem (show j < 16 by omega)]

/-- A turn of the loop of R380 whose bit can be read shifts it in. -/
theorem windowFrom_succ {m : Memory} {n p : Nat} {b : Bool} (hbit : streamBit m n p = some b) (k : Nat) (w : Word) :
    windowFrom m n (k + 1) p w = windowFrom m n k (p + 1) ((w <<< 1) ||| (BitVec.ofBool b).setWidth 16) := by
  rw [windowFrom, hbit]

/-- The loop of R380 reads the next `k` bits into the low `k` bits of the word, in order, and moves up what was there. -/
theorem windowFrom_reads_bits {m : Memory} {n : Nat} (hwritten : Spec.Written m n) {k : Nat} (hk : k ≤ 16) (p : Nat)
    (w : Word) : ∃ w', windowFrom m n k p w = some w' ∧
      (∀ j, j < k → streamBit m n (p + j) = some (w'.getLsbD (k - 1 - j))) ∧
      ∀ j, k + j < 16 → w'.getLsbD (k + j) = w.getLsbD j := by
  induction k generalizing p w with
  | zero => exact ⟨w, rfl, fun _ hj => absurd hj (by omega), fun j _ => by rw [Nat.zero_add]⟩
  | succ k ih =>
    obtain ⟨b, hb⟩ := exists_streamBit hwritten p
    obtain ⟨w', hloop, hnew, hold⟩ := ih (by omega) (p + 1) ((w <<< 1) ||| (BitVec.ofBool b).setWidth 16)
    refine ⟨w', (windowFrom_succ hb k w).trans hloop, fun j hj => ?_, fun j hj => ?_⟩
    · cases j with
      | zero =>
        have htop : w'.getLsbD k = b := (hold 0 (by omega)).trans (getLsbD_zero_shiftIn w b)
        simpa [htop] using hb
      | succ j =>
        have hindex : k + 1 - 1 - (j + 1) = k - 1 - j := by omega
        rw [hindex, ← hnew j (by omega)]
        congr 1; omega
    · have hmoved := hold (j + 1) (by omega)
      rw [getLsbD_succ_shiftIn w b (by omega)] at hmoved
      rw [← hmoved]
      congr 1; omega

/-- Settles O9: the 16 turns of the loop, each bit genuine below the stream's end and 0 from there on. -/
theorem fetchReadsTheStream : Obligations.FetchReadsTheStream := by
  intro m n p hwritten
  obtain ⟨w, hloop, hbits, -⟩ := windowFrom_reads_bits hwritten le_rfl p 0
  refine ⟨w, by rw [fetchNextCode, hloop, Option.map_some, genuineBits], fun j hj => ?_⟩
  have hbit : streamBit m n (p + j) = some (w.getLsbD (15 - j)) := hbits j hj
  split
  case isTrue hlt => rwa [streamBit_of_lt m hlt] at hbit
  case isFalse hge =>
    rw [streamBit_of_le m (by omega)] at hbit
    exact (Option.some.inj hbit).symm

end Sys2Proof.Proofs
end

section
/-! Matching a codeword (45_bitstream_primitives.md R386): the masked comparison of R10 compares exactly the codeword's
bits, and the count of genuine bits bars a codeword that the end of the stream cuts. -/

namespace Sys2Proof.Proofs

open Sys2Proof.Machine

/-- The mask of R10 keeps the field's first `length` bits. -/
theorem getLsbD_and_mask {k : Code} (hlength : k.length ≤ 16) (w : Word) {j : Nat} (hj : j < 16) :
    (w &&& k.mask).getLsbD (15 - j) = (w.getLsbD (15 - j) && decide (j < k.length)) := by
  have hones : (0xFFFF#16) = BitVec.allOnes 16 := rfl
  rw [BitVec.getLsbD_and, Code.mask, hones, BitVec.getLsbD_shiftLeft, BitVec.getLsbD_allOnes]
  congr 1
  rw [Bool.eq_iff_iff]
  simp only [Bool.and_eq_true, Bool.not_eq_true', decide_eq_true_eq, decide_eq_false_iff_not]
  omega

/-- Words are equal when their bits are, counted from the first transmitted one. -/
theorem word_eq_iff {v w : Word} : v = w ↔ ∀ j, j < 16 → v.getLsbD (15 - j) = w.getLsbD (15 - j) := by
  refine ⟨fun heq _ _ => heq ▸ rfl, fun hbits => BitVec.eq_of_getLsbD_eq fun i hi => ?_⟩
  have hbit := hbits (15 - i) (by omega)
  rwa [show 15 - (15 - i) = i by omega] at hbit

/-- R10: a well-formed Code has length 1 .. 13 and zeros behind its bits. -/
theorem wf_code_iff {k : Code} :
    k.wf = true ↔
      1 ≤ k.length ∧ k.length ≤ 13 ∧ ∀ j, j < 16 → k.length ≤ j → k.codeword.getLsbD (15 - j) = false := by
  simp only [Code.wf, Bool.and_eq_true, decide_eq_true_eq, beq_iff_eq, and_assoc]
  refine and_congr_right fun _ => and_congr_right fun hmax => ?_
  rw [word_eq_iff]
  refine forall₂_congr fun j hj => ?_
  rw [getLsbD_and_mask (by omega) _ hj, Bool.and_eq_left_iff_imp, decide_eq_true_iff, ← not_lt]
  cases k.codeword.getLsbD (15 - j) with
  | true => simp
  | false => simp

/-- The masked comparison of R10 compares the codeword's bits: behind them both sides are zero. -/
theorem spelledBy_iff_spells {k : Code} (hwf : k.wf = true) (w : Word) : k.spelledBy w = true ↔ Spec.Spells k w := by
  obtain ⟨-, hmax, hzero⟩ := wf_code_iff.mp hwf
  rw [Code.spelledBy, beq_iff_eq, word_eq_iff]
  refine ⟨fun hfield j hj => ?_, fun hspells j hj => ?_⟩
  · have hbit := hfield j (by omega)
    rwa [getLsbD_and_mask (by omega) w (by omega), decide_eq_true hj, Bool.and_true] at hbit
  · rw [getLsbD_and_mask (by omega) w hj]
    rcases Nat.lt_or_ge j k.length with hlt | hge
    · rw [decide_eq_true hlt, Bool.and_true, hspells j hlt]
    · rw [decide_eq_false (by omega), Bool.and_false, hzero j hj hge]

/-- Settles O10: the window of O9 spells the codeword, and the bits it is spelled with are genuine. -/
theorem matchAtTestsAWholeCodeword : Obligations.MatchAtTestsAWholeCodeword := by
  intro m n p k hwritten hwf
  obtain ⟨w, hfetch, hwindow⟩ := fetchReadsTheStream m n p hwritten
  refine ⟨k.matches w (min 16 (8 * n - p)), by rw [matchAt, hfetch, Option.map_some], ?_⟩
  obtain ⟨hpos, hmax, -⟩ := wf_code_iff.mp hwf
  have hgenuine : k.length ≤ min 16 (8 * n - p) ↔ p + k.length ≤ 8 * n := by omega
  rw [Code.matches, Bool.and_eq_true, decide_eq_true_iff, hgenuine, spelledBy_iff_spells hwf]
  refine and_congr_right fun hinside => forall₂_congr fun j hj => ?_
  have hbit := hwindow j (by omega)
  rw [if_pos (by omega)] at hbit
  rw [hbit, Option.some.injEq]

end Sys2Proof.Proofs
end

section
/-! Appending a codeword (45_bitstream_primitives.md R382, R383). One turn of `add_code` appends one bit, and what is
appended bit by bit is appended as a whole; the clean tail is what makes the `|||` of a turn a store. -/

namespace Sys2Proof.Proofs

open Sys2Proof.Machine

/-- The memory in which a turn of `add_code` merges its bit: the byte the cursor enters has been zeroed (R383). -/
def enterByte (m : Memory) (q : Nat) : Memory := if q % 8 = 0 then m.write (q / 8) 0 else m

theorem addBit_zero (m : Memory) (q : Nat) : addBit m q false = some (enterByte m q) := rfl

theorem addBit_one (m : Memory) (q : Nat) :
    addBit m q true =
      ((enterByte m q).read (q / 8)).map fun v => (enterByte m q).write (q / 8) (v ||| (1#8 <<< (7 - q % 8))) := rfl

/-- Storing a byte replaces its eight bits of the stream. -/
theorem bit_write (m : Memory) (a r : Nat) (v : Byte) :
    Spec.bit (m.write a v) r = if r / 8 = a then some (v.getLsbD (7 - r % 8)) else Spec.bit m r := by
  rw [Spec.bit, Memory.read_write]
  split
  · rfl
  · rfl

/-- Merging a 1 into its byte sets that bit of the stream and no other. -/
theorem bit_write_or {m : Memory} {q : Nat} {v : Byte} (hread : m.read (q / 8) = some v) (r : Nat) :
    Spec.bit (m.write (q / 8) (v ||| (1#8 <<< (7 - q % 8)))) r = if r = q then some true else Spec.bit m r := by
  rw [bit_write]
  split
  case isTrue hbyte =>
    have hplace : 7 - q % 8 = 7 - r % 8 ↔ r = q := by omega
    rw [Spec.bit, hbyte, hread, Option.map_some, BitVec.getLsbD_or, ← BitVec.twoPow_eq, BitVec.getLsbD_twoPow,
      decide_eq_true (show 7 - q % 8 < 8 by omega), Bool.true_and]
    by_cases heq : r = q
    · simp [heq]
    · simp [hplace, heq]
  case isFalse hbyte =>
    have hne : r ≠ q := fun heq => hbyte (congrArg (· / 8) heq)
    rw [if_neg hne]

/-- Entering a byte leaves the bits before the cursor. -/
theorem bit_enterByte_of_lt {q r : Nat} (m : Memory) (hlt : r < q) : Spec.bit (enterByte m q) r = Spec.bit m r := by
  unfold enterByte
  split
  case isTrue hstart => rw [bit_write, if_neg (by omega)]
  case isFalse => rfl

/-- From the cursor on the byte is zero: the fresh byte because it was zeroed, a begun one because its tail is clean. -/
theorem bit_enterByte_of_le {m : Memory} {q r : Nat} (hclean : Spec.CleanTail m q) (hle : q ≤ r)
    (hbyte : r / 8 = q / 8) : Spec.bit (enterByte m q) r = some false := by
  unfold enterByte
  split
  case isTrue hstart => simp [bit_write, hbyte]
  case isFalse hinside =>
    have hbit := hclean (r - q) (by omega) (by omega)
    rwa [Nat.add_sub_cancel' hle] at hbit

/-- What one turn of `add_code` does to the bits of the stream. -/
theorem addBit_bit {m : Memory} {q : Nat} (hclean : Spec.CleanTail m q) (b : Bool) :
    ∃ m', addBit m q b = some m' ∧ ∀ r, Spec.bit m' r = if r = q then some b else Spec.bit (enterByte m q) r := by
  have hzero : Spec.bit (enterByte m q) q = some false := bit_enterByte_of_le hclean le_rfl rfl
  cases b with
  | false =>
    refine ⟨enterByte m q, addBit_zero m q, fun r => ?_⟩
    split
    case isTrue heq => rw [heq, hzero]
    case isFalse => rfl
  | true =>
    obtain ⟨v, hread, -⟩ := Option.map_eq_some_iff.mp hzero
    exact ⟨_, by rw [addBit_one, hread, Option.map_some], bit_write_or hread⟩

/-- One turn of `add_code` appends its bit. -/
theorem addBit_appended {m : Memory} {q : Nat} (hclean : Spec.CleanTail m q) (b : Bool) :
    ∃ m', addBit m q b = some m' ∧ Spec.Appended m q [b] m' := by
  obtain ⟨m', hadd, hbit⟩ := addBit_bit hclean b
  refine ⟨m', hadd, fun j hj => ?_, fun r hr => ?_, fun a ha => ?_, fun j hj htail => ?_⟩
  · obtain rfl : j = 0 := by simpa using hj
    rw [hbit, if_pos (Nat.add_zero q)]; rfl
  · rw [hbit, if_neg (by omega), bit_enterByte_of_lt m hr]
  · exact addBit_read hadd a (by rw [List.length_singleton] at ha; omega)
  · rw [List.length_singleton] at htail ⊢
    rw [hbit, if_neg (by omega), bit_enterByte_of_le hclean (by omega) (by omega)]

theorem appended_nil {m : Memory} {p : Nat} (hclean : Spec.CleanTail m p) : Spec.Appended m p [] m :=
  ⟨fun _ hj => absurd hj (Nat.not_lt_zero _), fun _ _ => rfl, fun _ _ => rfl, hclean⟩

/-- Behind appended bits the next ones can be appended. -/
theorem cleanTail_of_appended {m m' : Memory} {p : Nat} {bits : List Bool} (happended : Spec.Appended m p bits m') :
    Spec.CleanTail m' (p + bits.length) := by
  obtain ⟨-, -, -, hclean⟩ := happended
  exact hclean

/-- Bits appended behind appended bits. -/
theorem appended_append {m m₁ m₂ : Memory} {p : Nat} {bs cs : List Bool} (hfirst : Spec.Appended m p bs m₁)
    (hsecond : Spec.Appended m₁ (p + bs.length) cs m₂) : Spec.Appended m p (bs ++ cs) m₂ := by
  obtain ⟨hbits₁, hbefore₁, hbehind₁, -⟩ := hfirst
  obtain ⟨hbits₂, hbefore₂, hbehind₂, hclean₂⟩ := hsecond
  simp only [Spec.Appended, List.length_append, ← Nat.add_assoc]
  refine ⟨fun j hj => ?_, fun q hq => ?_, fun a ha => ?_, hclean₂⟩
  · rcases Nat.lt_or_ge j bs.length with hlt | hge
    · rw [hbefore₂ _ (by omega), hbits₁ j hlt, List.getElem?_append_left hlt]
    · rw [List.getElem?_append_right hge, ← hbits₂ (j - bs.length) (by omega)]
      congr 1; omega
  · rw [hbefore₂ q (by omega), hbefore₁ q hq]
  · rw [hbehind₂ a ha, hbehind₁ a (by omega)]

/-- A turn of the loop of `add_code` that can merge its bit goes on behind it. -/
theorem addBits_succ {m m₁ : Memory} {w : Word} {i q : Nat} (hturn : addBit m q (w.getLsbD (15 - i)) = some m₁)
    (k : Nat) : addBits w (k + 1) i q m = addBits w k (i + 1) (q + 1) m₁ := by
  rw [addBits, hturn]

/-- The loop of `add_code` appends the bits `i .. i + k - 1` of the field. -/
theorem addBits_appended {m : Memory} {q : Nat} (w : Word) (k i : Nat) (hclean : Spec.CleanTail m q) :
    ∃ m', addBits w k i q m = some m' ∧
      Spec.Appended m q ((List.range' i k).map fun j => w.getLsbD (15 - j)) m' := by
  induction k generalizing i q m with
  | zero => exact ⟨m, rfl, appended_nil hclean⟩
  | succ k ih =>
    obtain ⟨m₁, hturn, hone⟩ := addBit_appended hclean (w.getLsbD (15 - i))
    obtain ⟨m', hloop, hrest⟩ := ih (i + 1) (cleanTail_of_appended hone)
    exact ⟨m', (addBits_succ hturn k).trans hloop, appended_append hone hrest⟩

/-- Settles O11: the loop over a whole codeword, and the equation of `emit`. -/
theorem addCodeAppendsItsBits : Obligations.AddCodeAppendsItsBits := by
  refine ⟨fun m p i hclean => ?_, fun s i m' hadd => ?_⟩
  · rw [Spec.bitsOf, List.range_eq_range']
    exact addBits_appended (encode i).codeword (encode i).length 0 hclean
  · exact State.emit_eq_some.mpr ⟨m', hadd, rfl⟩

end Sys2Proof.Proofs
end

section
/-! The run codes (46_row_coder_1d.md R402 to R405): what a row of the run tables says of its codeword, when the checks
of R402 pass, and what the codeword then does to the state. -/

namespace Sys2Proof.Proofs

open Sys2Proof.Machine

/-- The terminal tables and the Code Table agree on every row: colour, run length and number of bits. -/
theorem terminalRow_spec {c : Colour} {i : Instr} {r n : Nat} (hrow : (i, r, n) ∈ Spec.terminalRows c) :
    i.operand = .terminal c r ∧ i.runLength = r ∧ (encode i).length = n := by
  have hrows : ∀ row, row ∈ Spec.terminalRows c →
      row.1.operand = .terminal c row.2.1 ∧ row.1.runLength = row.2.1 ∧ (encode row.1).length = row.2.2 := by
    cases c with
    | white => decide
    | black => decide
  exact hrows _ hrow

/-- The makeup tables and the Code Table agree on every row; a row of either colour's table may be a shared one. -/
theorem makeupRow_spec {c : Colour} {i : Instr} {r n : Nat} (hrow : (i, r, n) ∈ Spec.makeupRows c) :
    (i.operand = .makeup c r ∨ i.operand = .shared r) ∧ i.runLength = r ∧ (encode i).length = n := by
  have hrows : ∀ row, row ∈ Spec.makeupRows c →
      (row.1.operand = .makeup c row.2.1 ∨ row.1.operand = .shared row.2.1) ∧
        row.1.runLength = row.2.1 ∧ (encode row.1).length = row.2.2 := by
    cases c with
    | white => decide
    | black => decide
  exact hrows _ hrow

/-- Every row of the Code Table holds a Code of R10. -/
theorem wf_encode (i : Instr) : (encode i).wf = true := by
  cases i <;> rfl

/-- The engine's count of genuine bits covers a codeword exactly when the stream does; the cap at 16 bars none. -/
theorem length_le_genuine_iff {s : State} {i : Instr} :
    (encode i).length ≤ s.genuine ↔ Spec.Genuine s (encode i).length := by
  obtain ⟨hpos, hmax, -⟩ := wf_code_iff.mp (wf_encode i)
  unfold State.genuine genuineBits State.codeBytes
  omega

/-- The rows `rowKind` of R474 calls 1D. -/
theorem rowKind_eq_oneD_iff {k : Int} {i : Nat} : rowKind k i = .oneD ↔ Spec.RowIs1D k i := by
  unfold rowKind
  rcases lt_trichotomy k 0 with hneg | rfl | hpos
  · simp [Spec.RowIs1D, hneg.ne, hneg.not_gt]
  · simp [Spec.RowIs1D]
  · lift k to Nat using hpos.le
    have hmod : (i : Int) % k = 0 ↔ i % k = 0 := by omega
    have hpos : 0 < k := by omega
    simp [Spec.RowIs1D, hpos, hpos.ne', hmod]

/-- The contexts `WHITE` and `BLACK` of R92. -/
theorem context_ofColour_iff_readsRun {s : State} {c : Colour} :
    s.context = some (Context.ofColour c) ↔ Spec.ReadsRun c s := by
  simp only [State.context_ofColour, State.rowKind, rowKind_eq_oneD_iff, and_assoc]

/-- A column inside the row passes the end test of R403 exactly at `Columns`. -/
theorem columns_le_iff_eq {s : State} {e : Nat} (hinside : (e : Int) ≤ s.cfgColumns) :
    s.columns ≤ e ↔ (e : Int) = s.cfgColumns := by
  unfold State.columns
  omega

/-- A run code whose bits are genuine and whose run stays inside the row acts behind its codeword (R402). -/
theorem runCode_of {s : State} {i : Instr} (act : State → State) (hgenuine : Spec.Genuine s (encode i).length)
    (hrange : ((s.col + (s.runacc + i.runLength) : Nat) : Int) ≤ s.cfgColumns) :
    s.runCode i act = .next (act (s.advance (encode i).length)) := by
  have hbits : (encode i).length ≤ s.genuine := length_le_genuine_iff.mpr hgenuine
  have hcolumns : s.col + s.runacc + i.runLength ≤ s.columns := by
    unfold State.columns
    omega
  rw [State.runCode, if_neg hbits.not_gt, if_neg hcolumns.not_gt]

/-- A terminal code in its context, all its bits genuine and its run inside the row, is the terminal action. -/
theorem exec_terminalRow {c : Colour} {i : Instr} {r n : Nat} {s : State} (hrow : (i, r, n) ∈ Spec.terminalRows c)
    (hreads : Spec.ReadsRun c s) (hgenuine : Spec.Genuine s n)
    (hrange : ((s.col + (s.runacc + r) : Nat) : Int) ≤ s.cfgColumns) :
    exec i s = .next ((s.advance n).terminalAction r) := by
  obtain ⟨hoperand, rfl, rfl⟩ := terminalRow_spec hrow
  calc exec i s = s.terminalCode c i := by rw [exec_run, hoperand]
    _ = s.runCode i fun t => t.terminalAction i.runLength :=
      State.inContext_of (context_ofColour_iff_readsRun.mpr hreads) _
    _ = _ := runCode_of _ hgenuine hrange

/-- A makeup code of either table is a makeup code of the colour being read, for a shared one takes that colour. -/
theorem exec_eq_makeupCode {c : Colour} {i : Instr} {r : Nat} {s : State}
    (hoperand : i.operand = .makeup c r ∨ i.operand = .shared r) (hcolor : s.color = c) :
    exec i s = s.makeupCode c i := by
  obtain hoperand | hoperand := hoperand
  · rw [exec_run, hoperand]
  · rw [exec_run, hoperand, ← hcolor, State.sharedMakeupCode]

/-- Settles O13: the terminal action of a 1D row, whose end test is the equality of R404. -/
theorem terminalCodeEndsARunOfA1DRow : Obligations.TerminalCodeEndsARunOfA1DRow := by
  rintro c i r n e s hrow hreads hphase hgenuine rfl hrange
  have ⟨⟨_, _, hfstate⟩, hcolor, _⟩ := hreads
  rw [exec_terminalRow hrow hreads hgenuine hrange, State.terminalAction_none (s.advance n) r hphase]
  simp [columns_le_iff_eq hrange, hcolor, hfstate]

/-- Settles O15: the checks of R402 pass, and the makeup action touches `RUNACC` alone. -/
theorem makeupCodeExtendsTheRun : Obligations.MakeupCodeExtendsTheRun := by
  intro c i r n s hrow hreads hgenuine hrange
  obtain ⟨hoperand, rfl, rfl⟩ := makeupRow_spec hrow
  have ⟨_, hcolor, _⟩ := hreads
  calc exec i s = s.makeupCode c i := exec_eq_makeupCode hoperand hcolor
    _ = s.runCode i fun t => t.makeupAction i.runLength :=
      State.inContext_of (context_ofColour_iff_readsRun.mpr hreads) _
    _ = _ := runCode_of _ hgenuine hrange

end Sys2Proof.Proofs
end

section
/-! The control codes (47_row_coder_2d.md R430, R432 to R438, R441): when the checks of a control code pass, what pass and
vertical mode do to the state, and which of them the encoder emits (R429, R439). -/

namespace Sys2Proof.Proofs

open Sys2Proof.Machine

/-! ### Mode selection (R429) -/

theorem selectMode_of_lt {a1 b1 b2 : Nat} (hpass : b2 < a1) : selectMode a1 b1 b2 = .pass := if_pos hpass

theorem selectMode_of_near {a1 b1 b2 : Nat} (hstay : a1 ≤ b2) (hnear : ((a1 : Int) - b1).natAbs ≤ 3) :
    selectMode a1 b1 b2 = .vertical ((a1 : Int) - b1) := by
  rw [selectMode, if_neg hstay.not_gt, if_pos hnear]

theorem selectMode_of_far {a1 b1 b2 : Nat} (hstay : a1 ≤ b2) (hfar : 3 < ((a1 : Int) - b1).natAbs) :
    selectMode a1 b1 b2 = .horizontal := by
  rw [selectMode, if_neg hstay.not_gt, if_neg hfar.not_ge]

/-- Settles O24: the three regions of R429 cover every `a1`, `b1`, `b2`, and the mode is known in each. -/
theorem modeSelection : Obligations.ModeSelection := by
  intro a1 b1 b2
  rcases Nat.lt_or_ge b2 a1 with hpass | hstay
  · simp only [selectMode_of_lt hpass, reduceCtorEq, true_iff, false_iff]
    exact ⟨by omega, fun d => by omega, by omega⟩
  rcases Nat.lt_or_ge 3 ((a1 : Int) - b1).natAbs with hfar | hnear
  · simp only [selectMode_of_far hstay hfar, reduceCtorEq, true_iff, false_iff]
    exact ⟨by omega, fun d => by omega, by omega⟩
  · simp only [selectMode_of_near hstay hnear, reduceCtorEq, false_iff, Mode.vertical.injEq]
    exact ⟨by omega, fun d => by omega, by omega⟩

/-! ### Control codes -/

/-- The context `CTRL2D` of R92. -/
theorem context_ctrl2d_iff_readsControl {s : State} : s.context = some .ctrl2d ↔ Spec.ReadsControl s := by
  have hkind : s.rowKind = .twoD ↔ ¬ Spec.RowIs1D s.cfgK s.rowidx := by
    rw [← rowKind_eq_oneD_iff, State.rowKind]
    cases rowKind s.cfgK s.rowidx with
    | oneD => simp
    | twoD => simp
  simp only [State.context_ctrl2d, hkind, and_assoc]

/-- A control code whose bits are genuine, over a whole reference line, acts. -/
theorem controlCode_acts {s : State} {i : Instr} (act : State → State) (hreads : Spec.ReadsControl s)
    (hgenuine : Spec.Genuine s (encode i).length) (hwhole : Spec.WholeReference s) :
    s.controlCode i act = .next (act s) := by
  have hreference : s.columns ≤ s.ref.length := Int.toNat_le.mpr hwhole
  exact State.controlCode_of act (context_ctrl2d_iff_readsControl.mpr hreads) (length_le_genuine_iff.mpr hgenuine)
    hreference

/-- A control code that the end of the stream cuts is `BufferExhausted`. -/
theorem controlCode_exhausted {s : State} {i : Instr} (act : State → State) (hreads : Spec.ReadsControl s)
    (hcut : ¬ Spec.Genuine s (encode i).length) :
    s.controlCode i act = .next (s.raise .bufferExhausted s.bitpos) := by
  have hshort : s.genuine < (encode i).length := Nat.lt_of_not_le (mt length_le_genuine_iff.mp hcut)
  rw [State.controlCode, State.inContext_of (context_ctrl2d_iff_readsControl.mpr hreads), if_pos hshort]

/-- Raising an error at `BITPOS` is the error stop of R552. -/
theorem errorStop_raise (e : ErrKind) (s : State) : Spec.ErrorStop e s (s.raise e s.bitpos) := rfl

/-! ### Pass mode (R430) -/

theorem exec_pass (s : State) : exec .p s = s.controlCode .p fun t => t.passAction 4 := exec_run .p s

theorem encodeModeStep_pass {s : State} (hmode : selectMode s.a1 s.b1 s.b2 = .pass) :
    s.encodeModeStep = (s.emit .p).map fun t => { t with a0 := (s.b2 : Nat), col := s.b2 } := by
  simp only [State.encodeModeStep, hmode]

/-- Settles O18: the pass action behind the checks, the failed check of genuineness, and the encoder's branch. -/
theorem passCode : Obligations.PassCode := by
  refine ⟨fun s hreads hgenuine hwhole => ?_, fun s hreads hcut => ?_, fun s t hmode hemit => ?_⟩
  · have ⟨⟨_, _, hfstate⟩, _⟩ := hreads
    have hend : s.columns ≤ s.b2 ↔ s.cfgColumns ≤ s.b2 := Int.toNat_le
    rw [exec_pass, controlCode_acts (i := .p) _ hreads hgenuine hwhole, State.passAction_eq]
    simp only [hend, hfstate]
  · exact ⟨_, (exec_pass s).trans (controlCode_exhausted _ hreads hcut), errorStop_raise _ s⟩
  · rw [encodeModeStep_pass hmode, hemit, Option.map_some]

/-! ### Vertical mode (R432 to R438, R441) -/

/-- The vertical table, the Code Table and the encoder's choice agree on every row. -/
theorem verticalRow_spec {i : Instr} {d : Int} {n : Nat} (hrow : (i, d, n) ∈ Spec.verticalRows) :
    i.operand = .vertical d ∧ (encode i).length = n ∧ verticalCode d = some i := by
  have hrows : ∀ row, row ∈ Spec.verticalRows →
      row.1.operand = .vertical row.2.1 ∧ (encode row.1).length = row.2.2 ∧ verticalCode row.2.1 = some row.1 := by
    decide
  exact hrows _ hrow

theorem exec_verticalRow {i : Instr} {d : Int} {n : Nat} (hrow : (i, d, n) ∈ Spec.verticalRows) (s : State) :
    exec i s = s.controlCode i fun t => t.verticalAction n d := by
  obtain ⟨hoperand, rfl, -⟩ := verticalRow_spec hrow
  calc exec i s = s.verticalCode i d := by rw [exec_run, hoperand]
    _ = s.controlCode i fun t => t.verticalAction (encode i).length d := rfl

/-- The vertical action to a target right of `A0` and inside the line. -/
theorem verticalAction_inside {s : State} {d : Int} {a : Nat} (n : Nat) (htarget : (a : Int) = s.b1 + d)
    (hright : s.a0 < a) (hinside : (a : Int) ≤ s.cfgColumns) :
    s.verticalAction n d = { s with
      bitpos := s.bitpos + n, cur := s.cur.fill s.col a s.color, a0 := (a : Nat), col := a, color := s.color.opp
      fstate := if (a : Int) = s.cfgColumns then .rowComplete else s.fstate } := by
  have hend : (s.columns : Int) ≤ a ↔ (a : Int) = s.cfgColumns := by
    rw [Nat.cast_le, columns_le_iff_eq hinside]
  have hcolumns : (a : Int) ≤ s.columns := hinside.trans (Int.self_le_toNat _)
  rw [State.verticalAction_eq, ← htarget, if_neg (by omega)]
  simp only [hend, Int.toNat_natCast]

/-- The vertical action to a target at or left of `A0` or beyond the line. -/
theorem verticalAction_outside {s : State} {d : Int} (n : Nat) (hline : 0 ≤ s.cfgColumns)
    (hrange : s.b1 + d ≤ s.a0 ∨ s.cfgColumns < s.b1 + d) :
    s.verticalAction n d = s.raise .runOutOfRange s.bitpos := by
  have hcolumns : (s.columns : Int) = s.cfgColumns := Int.toNat_of_nonneg hline
  rw [State.verticalAction_eq, hcolumns, if_pos hrange]

theorem encodeModeStep_vertical {s : State} {d : Int} {i : Instr} (hmode : selectMode s.a1 s.b1 s.b2 = .vertical d)
    (hcode : verticalCode d = some i) :
    s.encodeModeStep = (s.emit i).map fun t => { t with a0 := (s.a1 : Nat), color := s.color.opp, col := s.a1 } := by
  have hone : s.emitAll [i] = s.emit i := (s.emitAll_cons i []).trans (Option.bind_fun_some _)
  simp only [State.encodeModeStep, hmode, hcode, Option.toList_some, hone]

/-- Settles O21: for each row of the table the vertical action of R441 inside and outside its range, the failed check of
genuineness, and the encoder's branch. -/
theorem verticalCodes : Obligations.VerticalCodes := by
  intro i d n hrow
  obtain ⟨-, hlength, hcode⟩ := verticalRow_spec hrow
  refine ⟨fun s a hreads hgenuine hwhole htarget hright hinside => ?_,
    fun s hreads hgenuine hwhole hline hrange => ⟨_, ?_, errorStop_raise _ s⟩,
    fun s hreads hcut => ⟨_, ?_, errorStop_raise _ s⟩, fun s t hmode hemit => ?_⟩
  · have ⟨⟨_, _, hfstate⟩, _⟩ := hreads
    rw [exec_verticalRow hrow, controlCode_acts _ hreads (hlength ▸ hgenuine) hwhole,
      verticalAction_inside n htarget hright hinside, hfstate]
  · rw [exec_verticalRow hrow, controlCode_acts _ hreads (hlength ▸ hgenuine) hwhole,
      verticalAction_outside n hline hrange]
  · rw [exec_verticalRow hrow, controlCode_exhausted _ hreads (hlength ▸ hcut)]
  · rw [encodeModeStep_vertical hmode hcode, hemit, Option.map_some]

end Sys2Proof.Proofs
end

section
/-! The positions of a coding step (47_row_coder_2d.md R423 to R426). Each of the three scans is one search: the first
column, from a column on, that has a property, or `Columns`. -/

namespace Sys2Proof.Proofs

open Sys2Proof.Machine

/-- `r` is the first column from `p` on with the property `P`, or `cols` where no column of the line has it. -/
structure FirstFrom (P : Nat → Prop) (cols p r : Nat) : Prop where
  not_before : min p cols ≤ r
  in_line : r ≤ cols
  skipped : ∀ q, p ≤ q → q < r → ¬ P q
  found : r < cols → P r

/-- A scan that ends with the line, stops at the property and else goes on finds the first column. -/
theorem firstFrom_scan {P : Nat → Prop} {cols : Nat} {scan : Nat → Nat} (hend : ∀ p, cols ≤ p → scan p = cols)
    (hstop : ∀ p, p < cols → P p → scan p = p) (hnext : ∀ p, p < cols → ¬ P p → scan p = scan (p + 1)) (p : Nat) :
    FirstFrom P cols p (scan p) := by
  induction hleft : cols - p generalizing p with
  | zero =>
    rw [hend p (by omega)]
    exact ⟨min_le_right _ _, le_rfl, fun q _ _ => by omega, fun hlt => absurd hlt (lt_irrefl _)⟩
  | succ n ih =>
    have hlt : p < cols := by omega
    by_cases hP : P p
    · rw [hstop p hlt hP]
      exact ⟨min_le_left _ _, hlt.le, fun q _ _ => by omega, fun _ => hP⟩
    · rw [hnext p hlt hP]
      obtain ⟨hbefore, hline, hskipped, hfound⟩ := ih (p + 1) (by omega)
      refine ⟨by omega, hline, fun q hq hqr => ?_, hfound⟩
      rcases hq.eq_or_lt with rfl | hgt
      · exact hP
      · exact hskipped q hgt hqr

/-! ### Cells of a line -/

theorem colour_ne_iff {x c : Colour} : x ≠ c ↔ x = c.opp := by
  cases x <;> cases c <;> decide

/-- A cell of the line holds the colour that `getD` reads. -/
theorem getElem?_eq_some_iff_getD {l : Line} {q : Nat} (hq : q < l.length) {c : Colour} :
    l[q]? = some c ↔ l.getD q .white = c := by
  rw [List.getD_eq_getElem?_getD, List.getElem?_eq_getElem hq, Option.some.injEq, Option.getD_some]

/-- What is left of the line at a column of it: that cell, then what is left behind it. -/
theorem drop_take_of_lt {l : Line} {cols p : Nat} (hwhole : cols ≤ l.length) (hlt : p < cols) :
    (l.take cols).drop p = l.getD p .white :: (l.take cols).drop (p + 1) := by
  have hcell : p < (l.take cols).length := by rw [List.length_take]; omega
  rw [List.drop_eq_getElem_cons hcell, List.getElem_take, List.getD_eq_getElem l .white (hlt.trans_le hwhole)]

theorem drop_take_of_le {l : Line} {cols p : Nat} (hle : cols ≤ p) : (l.take cols).drop p = [] :=
  List.drop_eq_nil_of_le ((List.length_take_le _ _).trans hle)

/-- The predecessor of a column behind column 0 is the cell before it. -/
theorem colourBefore_succ (l : Line) (p : Nat) : colourBefore l (p + 1) = l.getD p .white := rfl

/-- A changing element (R420) is a cell that differs from what the scans compare it with. -/
theorem changing_iff {l : Line} {p : Nat} : Spec.Changing l p ↔ l.getD p .white ≠ colourBefore l p := Iff.rfl

/-! ### The three scans -/

theorem firstFrom_scanRun {l : Line} {cols : Nat} (hwhole : cols ≤ l.length) (c : Colour) (p : Nat) :
    FirstFrom (fun q => l.getD q .white ≠ c) cols p (scanRun cols c ((l.take cols).drop p) p) := by
  refine firstFrom_scan (scan := fun p => scanRun cols c ((l.take cols).drop p) p)
    (fun q hle => ?_) (fun q hlt hother => ?_) (fun q hlt hsame => ?_) p
  · simp only [drop_take_of_le hle, scanRun]
  · simp only [drop_take_of_lt hwhole hlt, scanRun]
    exact if_neg hother
  · simp only [drop_take_of_lt hwhole hlt, scanRun]
    exact if_pos (not_not.mp hsame)

theorem firstFrom_scanB1 {l : Line} {cols : Nat} (hwhole : cols ≤ l.length) (c : Colour) (p : Nat) :
    FirstFrom (fun q => Spec.Changing l q ∧ l.getD q .white ≠ c) cols p
      (scanB1 cols c (colourBefore l p) ((l.take cols).drop p) p) := by
  refine firstFrom_scan (scan := fun p => scanB1 cols c (colourBefore l p) ((l.take cols).drop p) p)
    (fun q hle => ?_) (fun q hlt hchange => ?_) (fun q hlt hsame => ?_) p
  · simp only [drop_take_of_le hle, scanB1]
  · simp only [drop_take_of_lt hwhole hlt, scanB1]
    exact if_pos (hchange.imp_left changing_iff.mp)
  · simp only [drop_take_of_lt hwhole hlt, scanB1, colourBefore_succ]
    exact if_neg fun hcell => hsame (hcell.imp_left changing_iff.mpr)

theorem firstFrom_scanB2 {l : Line} {cols : Nat} (hwhole : cols ≤ l.length) (p : Nat) :
    FirstFrom (Spec.Changing l) cols p (scanB2 cols (colourBefore l p) ((l.take cols).drop p) p) := by
  refine firstFrom_scan (scan := fun p => scanB2 cols (colourBefore l p) ((l.take cols).drop p) p)
    (fun q hle => ?_) (fun q hlt hchange => ?_) (fun q hlt hsame => ?_) p
  · simp only [drop_take_of_le hle, scanB2]
  · simp only [drop_take_of_lt hwhole hlt, scanB2]
    exact if_pos (changing_iff.mp hchange)
  · simp only [drop_take_of_lt hwhole hlt, scanB2, colourBefore_succ]
    exact if_neg (mt changing_iff.mpr hsame)

/-! ### The positions -/

theorem firstFrom_findA1 {l : Line} {cols : Nat} (hwhole : cols ≤ l.length) (a0 : Int) (c : Colour) :
    FirstFrom (fun q => l.getD q .white ≠ c) cols (a0 + 1).toNat (findA1 l cols a0 c) :=
  firstFrom_scanRun hwhole c _

theorem firstFrom_findB1 {l : Line} {cols : Nat} (hwhole : cols ≤ l.length) (a0 : Int) (c : Colour) :
    FirstFrom (fun q => Spec.Changing l q ∧ l.getD q .white ≠ c) cols (a0 + 1).toNat (findB1 l cols a0 c) :=
  firstFrom_scanB1 hwhole c _

theorem firstFrom_findB2 {l : Line} {cols : Nat} (hwhole : cols ≤ l.length) (b1 : Nat) :
    FirstFrom (Spec.Changing l) cols (b1 + 1) (findB2 l cols b1) :=
  firstFrom_scanB2 hwhole _

/-- Settles O22: `findA1` is the first column from `a0 + 1` on whose colour is not `c`. -/
theorem findA1IsTheNextChange : Obligations.FindA1IsTheNextChange := by
  refine ⟨fun l cols a0 c hwhole hleft hright => ?_, fun s => ⟨rfl, rfl⟩⟩
  obtain ⟨hbefore, hline, hskipped, hfound⟩ := firstFrom_findA1 hwhole a0 c
  refine ⟨fun hlt => by omega, hline, fun heq => by omega, fun q hq hqr => ?_, fun hlt => ?_⟩
  · exact (getElem?_eq_some_iff_getD (by omega)).mpr (not_not.mp (hskipped q (by omega) hqr))
  · exact (getElem?_eq_some_iff_getD (by omega)).mpr (colour_ne_iff.mp (hfound hlt))

/-- Settles O23: `findB1` is the first changing element from `a0 + 1` on of the colour opposite to `c`, `findB2` the first
changing element from `b1 + 1` on. -/
theorem findB1AndB2AreChangingElements : Obligations.FindB1AndB2AreChangingElements := by
  refine ⟨fun l cols a0 c b1 b2 hwhole hleft hright hb1 hb2 => ?_, fun s => ⟨rfl, rfl⟩⟩
  obtain ⟨hbefore₁, hline₁, hskipped₁, hfound₁⟩ := hb1 ▸ firstFrom_findB1 hwhole a0 c
  obtain ⟨hbefore₂, hline₂, hskipped₂, hfound₂⟩ := hb2 ▸ firstFrom_findB2 hwhole b1
  have hopposite : ∀ q, q < cols → (l[q]? = some c.opp ↔ l.getD q .white ≠ c) := fun q hq =>
    (getElem?_eq_some_iff_getD (by omega)).trans colour_ne_iff.symm
  refine ⟨fun hlt => by omega, hline₁, fun heq => by omega, fun hlt => ?_, fun q hq hqr => ?_, fun hlt => by omega,
    hline₂, fun heq => by omega, hfound₂, fun q hq => hskipped₂ q hq⟩
  · rw [hopposite b1 hlt]
    exact hfound₁ hlt
  · rw [hopposite q (by omega)]
    exact hskipped₁ q (by omega) hqr

end Sys2Proof.Proofs
end

section
/-! Counting markers (48_frame_sync_controller.md R475): the two turns of the loop, and what the count is. -/

namespace Sys2Proof.Proofs

open Sys2Proof.Machine

/-- `matchAt` compares a codeword with the window that is fetched. -/
theorem matchAt_of_fetch {m : Memory} {n p : Nat} {f : Fetched} (hfetch : fetchNextCode m n p = some f) (k : Code) :
    matchAt m n p k = some (k.matches f.window f.avail) := by
  rw [matchAt, hfetch, Option.map_some]

/-- Where the code bytes have been written, a window can be fetched at every position. -/
theorem exists_fetch {m : Memory} {n : Nat} (hwritten : Spec.Written m n) (p : Nat) :
    ∃ f, fetchNextCode m n p = some f := by
  obtain ⟨w, hfetch, -⟩ := fetchReadsTheStream m n p hwritten
  exact ⟨_, hfetch⟩

/-- A copy at the position is counted, and the count goes on behind it. -/
theorem countMarks_of_match {m : Memory} {n q : Nat} {k : Code} (hmatch : matchAt m n q k = some true) (max : Nat) :
    countMarks m n k (max + 1) q = (countMarks m n k max (q + k.length)).map (· + 1) := by
  rw [countMarks, hmatch]

/-- Where no copy stands the count ends. -/
theorem countMarks_of_no_match {m : Memory} {n q : Nat} {k : Code} (hmatch : matchAt m n q k = some false) (max : Nat) :
    countMarks m n k (max + 1) q = some 0 := by
  rw [countMarks, hmatch]

/-- Settles O30: by induction on the limit; a copy at `q` is copy 0, and copy `x + 1` is copy `x` of the count behind
it. -/
theorem countMarksCountsCopies : Obligations.CountMarksCountsCopies := by
  intro m n k max q hwritten
  induction max generalizing q with
  | zero => exact ⟨0, rfl, le_rfl, fun _ hx => absurd hx (Nat.not_lt_zero _), fun h => absurd h (Nat.not_lt_zero _)⟩
  | succ max ih =>
    obtain ⟨f, hfetch⟩ := exists_fetch hwritten q
    have hmatch := matchAt_of_fetch hfetch k
    cases hcopy : k.matches f.window f.avail with
    | false =>
      rw [hcopy] at hmatch
      refine ⟨0, countMarks_of_no_match hmatch max, Nat.zero_le _, fun _ hx => absurd hx (Nat.not_lt_zero _),
        fun _ => ?_⟩
      rwa [Nat.zero_mul, Nat.add_zero]
    | true =>
      rw [hcopy] at hmatch
      obtain ⟨j, hcount, hle, hcopies, hend⟩ := ih (q + k.length)
      have hbehind : ∀ x, q + (x + 1) * k.length = q + k.length + x * k.length := fun x => by rw [Nat.succ_mul]; omega
      refine ⟨j + 1, by rw [countMarks_of_match hmatch, hcount, Option.map_some], by omega, fun x hx => ?_,
        fun hlt => ?_⟩
      · cases x with
        | zero => rwa [Nat.zero_mul, Nat.add_zero]
        | succ x => rw [hbehind]; exact hcopies x (by omega)
      · rw [hbehind]; exact hend (by omega)

end Sys2Proof.Proofs
end

section
/-! Completed rows (48_frame_sync_controller.md R482, R487): the step without moves of the host, the row stored as
sentinels (20_memory.md R65), the reference line, and the alignment of the cursor. -/

namespace Sys2Proof.Proofs

open Sys2Proof.Machine

/-! ### Steps of a call -/

/-- Without a move of the host the step of a decode call is the engine's. -/
theorem step_decoding {s : State} (hhost : s.host = []) (hbusy : s.busy = true) (hdir : s.dirl = .decode) :
    step s = s.decodeEngineStep :=
  (State.machineStep_engine s hhost).trans (State.engineStep_decode s hbusy hdir)

/-- Without a move of the host the step of an encode call is the engine's. -/
theorem step_encoding {s : State} (hhost : s.host = []) (hbusy : s.busy = true) (hdir : s.dirl = .encode) :
    step s = s.encodeEngineStep :=
  (State.machineStep_engine s hhost).trans (State.engineStep_encode s hbusy hdir)

theorem decodeEngineStep_rowComplete {s : State} (hfstate : s.fstate = .rowComplete) :
    s.decodeEngineStep = s.decodeRowComplete := by
  rw [State.decodeEngineStep, hfstate]

theorem encodeEngineStep_rowComplete {s : State} (hfstate : s.fstate = .rowComplete) :
    s.encodeEngineStep = s.encodeRowComplete := by
  rw [State.encodeEngineStep, hfstate]

/-! ### The coding line, stored and copied -/

theorem columns_eq {s : State} {w : Nat} (hcolumns : s.cfgColumns = w) : s.columns = w := by
  rw [State.columns, hcolumns, Int.toNat_natCast]

theorem toByte_eq_sentinel (b : Bool) (c : Colour) : toByte b c = Spec.sentinel b c := by
  cases c with
  | white => rfl
  | black => rfl

/-- An overwritten line: the new row's cells, behind them the old line's. -/
theorem getElem?_overwrite (l : Line) (row : List Colour) (c : Nat) :
    (l.overwrite row)[c]? = if c < row.length then row[c]? else l[c]? := by
  rw [Line.overwrite, List.getElem?_append]
  split
  case isTrue => rfl
  case isFalse hge => rw [List.getElem?_drop, Nat.add_sub_cancel' (Nat.le_of_not_lt hge)]

/-- The reference line after a row: the coding line up to the width. -/
theorem getElem?_overwrite_take {ref cur : Line} {w : Nat} (hwhole : w ≤ cur.length) (c : Nat) :
    (ref.overwrite (cur.take w))[c]? = if c < w then cur[c]? else ref[c]? := by
  rw [getElem?_overwrite, List.length_take_of_le hwhole]
  refine ite_congr rfl (fun hlt => ?_) fun _ => rfl
  exact List.getElem?_take_of_lt hlt

/-- A stored row of `PIX` holds the sentinels of the coding line. -/
theorem read_storeRow_inside {s : State} {r c : Nat} (hwhole : s.columns ≤ s.cur.length) (hlt : c < s.columns) :
    (s.storeRow r).pix.read (r * s.columns + c) = (s.cur[c]?).map (Spec.sentinel s.blackIs1) := by
  rw [State.storeRow_pix, Memory.read_writeBlock, List.length_map, List.length_take_of_le hwhole, if_pos (by omega),
    Nat.add_sub_cancel_left, List.getElem?_map, List.getElem?_take_of_lt hlt]
  exact congrArg (fun f => Option.map f _) (funext (toByte_eq_sentinel _))

/-- Storing a row leaves the bytes of the other rows. -/
theorem read_storeRow_outside {s : State} {r a : Nat} (hwhole : s.columns ≤ s.cur.length)
    (houtside : a < r * s.columns ∨ (r + 1) * s.columns ≤ a) : (s.storeRow r).pix.read a = s.pix.read a := by
  rw [Nat.succ_mul] at houtside
  rw [State.storeRow_pix, Memory.read_writeBlock, List.length_map, List.length_take_of_le hwhole, if_neg (by omega)]

/-! ### A decoded row -/

/-- The row limit of R483 (b). -/
theorem rowLimitReached_iff {s : State} :
    s.rowLimitReached = true ↔ 0 < s.cfgRows ∧ s.cfgFlags.getLsbD 2 = false ∧ s.cfgRows ≤ (s.rowidx : Int) := by
  simp only [State.rowLimitReached, State.endOfBlock, Bool.and_eq_true, decide_eq_true_eq, Bool.not_eq_true', and_assoc]

/-- A whole row for which `PIX` has room is stored and closed; then the call ends or the next row boundary comes. -/
theorem decodeRowComplete_of {s : State} (hwhole : s.columns ≤ s.cur.length)
    (hroom : fitsIn s.params.pixBytes ((s.rowidx + 1) * s.columns) = true) :
    s.decodeRowComplete = .next (if (s.storeRow s.rowidx).closeRow.rowLimitReached
      then (s.storeRow s.rowidx).closeRow.finish
      else { (s.storeRow s.rowidx).closeRow with fstate := .awaitingSync }) := by
  rw [State.decodeRowComplete, if_neg hwhole.not_gt, if_pos hroom]

/-- Ending the call or going on to the next row boundary touches no line and no memory. -/
theorem ref_pix_of_finish_or_continue (u : State) (b : Bool) :
    (if b then u.finish else { u with fstate := .awaitingSync }).ref = u.ref ∧
      (if b then u.finish else { u with fstate := .awaitingSync }).pix = u.pix := by
  cases b with
  | true => exact ⟨rfl, rfl⟩
  | false => exact ⟨rfl, rfl⟩

/-- Settles O34: the stored and closed row is the state `u`, and the row limit of R483 (b) decides what follows. -/
theorem decodeRowComplete : Obligations.DecodeRowComplete := by
  intro s w hhost hbusy hdir hfstate hpix hcolumns hwhole
  obtain rfl : s.columns = w := columns_eq hcolumns
  have hroom : fitsIn s.params.pixBytes ((s.rowidx + 1) * s.columns) = true := by rw [hpix]; rfl
  have hstep := (step_decoding hhost hbusy hdir).trans
    ((decodeEngineStep_rowComplete hfstate).trans (decodeRowComplete_of hwhole hroom))
  obtain ⟨href, hstored⟩ := ref_pix_of_finish_or_continue (s.storeRow s.rowidx).closeRow
    (s.storeRow s.rowidx).closeRow.rowLimitReached
  refine ⟨_, (s.storeRow s.rowidx).closeRow, hstep, ?_, ?_, fun c hc => ?_, fun a ha => ?_, fun c => ?_⟩
  · rw [href, hstored]; rfl
  · exact if_congr rowLimitReached_iff rfl rfl
  · rw [hstored]; exact read_storeRow_inside hwhole hc
  · rw [hstored]; exact read_storeRow_outside hwhole ha
  · rw [href]; exact getElem?_overwrite_take hwhole c

/-! ### An encoded row -/

theorem encodeRowComplete_of {s : State} (hwhole : s.columns ≤ s.cur.length) :
    s.encodeRowComplete = .next { s.closeRow with fstate := .awaitingSync } := by
  rw [State.encodeRowComplete, if_neg hwhole.not_gt]

/-- Closing a row moves the cursor at most to the end of its byte. -/
theorem closeRow_bitpos_le (s : State) : s.closeRow.bitpos ≤ 8 * ((s.bitpos + 7) / 8) := by
  rw [State.closeRow_bitpos]
  split
  · exact le_rfl
  · omega

/-- Settles O35: the closed row; the bits the cursor skips are among those of the clean tail. -/
theorem encodeRowComplete : Obligations.EncodeRowComplete := by
  rintro s w hhost ⟨hbusy, hdir, hfstate⟩ hcolumns hwhole
  obtain rfl : s.columns = w := columns_eq hcolumns
  have hstep := (step_encoding hhost hbusy hdir).trans
    ((encodeEngineStep_rowComplete hfstate).trans (encodeRowComplete_of hwhole))
  refine ⟨_, hstep, rfl, fun c => getElem?_overwrite_take hwhole c, fun hclean q hle hlt => ?_⟩
  have hbyte : q < 8 * ((s.bitpos + 7) / 8) := hlt.trans_le (closeRow_bitpos_le s)
  have hbit := hclean (q - s.bitpos) (by omega) (by omega)
  rwa [Nat.add_sub_cancel' hle] at hbit

end Sys2Proof.Proofs
end

section
/-! The end of an encode call (48_frame_sync_controller.md R485, R488, R489): emitting codewords appends their bits, and
the terminator of a scheme is one such list of codewords. -/

namespace Sys2Proof.Proofs

open Sys2Proof.Machine

theorem length_bitsOf (i : Instr) : (Spec.bitsOf i).length = (encode i).length := by
  rw [Spec.bitsOf, List.length_map, List.length_range]

/-- Emitting codewords over a clean tail appends their bits, back to back, and moves the cursor behind them. -/
theorem exists_emitAll {s : State} (is : List Instr) (hclean : Spec.CleanTail s.code s.bitpos) :
    ∃ t, s.emitAll is = some t ∧ t = { s with code := t.code, bitpos := s.bitpos + Spec.bitCount is } ∧
      Spec.Appended s.code s.bitpos (Spec.bitsOfAll is) t.code := by
  suffices hemit : ∃ t, s.emitAll is = some t ∧ Spec.Appended s.code s.bitpos (Spec.bitsOfAll is) t.code by
    obtain ⟨t, hemitted, happended⟩ := hemit
    exact ⟨t, hemitted, State.emitAll_eq_some hemitted, happended⟩
  induction is generalizing s with
  | nil => exact ⟨s, rfl, appended_nil hclean⟩
  | cons i is ih =>
    obtain ⟨happends, hemit⟩ := addCodeAppendsItsBits
    obtain ⟨m, hadd, hfirst⟩ := happends s.code s.bitpos i hclean
    have htail : Spec.CleanTail m (s.bitpos + (encode i).length) := length_bitsOf i ▸ cleanTail_of_appended hfirst
    obtain ⟨t, hrest, hothers⟩ := ih (s := { s with code := m, bitpos := s.bitpos + (encode i).length }) htail
    refine ⟨t, by rw [State.emitAll_cons, hemit s i m hadd, Option.bind_some, hrest], ?_⟩
    rw [← length_bitsOf] at hothers
    exact appended_append hfirst hothers

/-- The codewords an encode call ends with (R488). -/
def terminator (s : State) : List Instr :=
  if s.cfgFlags.getLsbD 2 = false then []
  else if s.cfgK < 0 then [.eol, .eol]
  else if s.cfgK = 0 then [.eol, .eol, .eol, .eol, .eol, .eol]
  else [.eol1, .eol1, .eol1, .eol1, .eol1, .eol1]

/-- The model's terminator is that of R488: its unit as often as its scheme repeats it. -/
theorem emitTerminator_eq (s : State) : s.emitTerminator = s.emitAll (terminator s) := by
  unfold State.emitTerminator terminator State.endOfBlock
  cases s.cfgFlags.getLsbD 2 with
  | false => rfl
  | true =>
    rcases lt_trichotomy s.cfgK 0 with hneg | hzero | hpos
    · simp [termCount, termUnit, hneg, hneg.not_gt, List.replicate]
    · simp [termCount, termUnit, hzero, List.replicate]
    · simp [termCount, termUnit, hpos, hpos.not_gt, hpos.ne', List.replicate]

theorem encodeEngineStep_awaitingSync {s : State} (hfstate : s.fstate = .awaitingSync) :
    s.encodeEngineStep = s.encodeAwaitingSync := by
  rw [State.encodeEngineStep, hfstate]

/-- What an encode step emits into an unbounded `CODE` is its next state. -/
theorem emitted_of_unbounded {t : State} (hunbounded : t.params.codeBytes = none) :
    State.emitted (some t) = .next t :=
  State.emitted_eq_next.mpr ⟨rfl, by rw [hunbounded]; rfl⟩

/-- The end of the call, once its terminator is emitted. -/
theorem encodeAwaitingSync_last {s t : State} (hlast : s.rowidx = s.nrows)
    (hemitted : s.emitAll (terminator s) = some t) (hunbounded : t.params.codeBytes = none) :
    s.encodeAwaitingSync = .next t.finishEncode := by
  rw [State.encodeAwaitingSync, if_pos hlast, emitTerminator_eq, hemitted, Option.map_some]
  exact emitted_of_unbounded hunbounded

/-- Settles O36: the terminator is appended, and the call is finished behind it. -/
theorem encodeCallEnds : Obligations.EncodeCallEnds := by
  rintro s is hhost ⟨hbusy, hdir, hfstate⟩ hlast hunbounded hclean hterminator
  obtain rfl : is = terminator s := hterminator
  obtain ⟨t, hemitted, hframe, happended⟩ := exists_emitAll (terminator s) hclean
  have hparams : t.params.codeBytes = none := by rw [hframe]; exact hunbounded
  have hstep := (step_encoding hhost hbusy hdir).trans
    ((encodeEngineStep_awaitingSync hfstate).trans (encodeAwaitingSync_last hlast hemitted hparams))
  refine ⟨t.finishEncode, hstep, ?_, happended⟩
  rw [hframe]
  rfl

end Sys2Proof.Proofs
end

section
/-! A decode call at a row boundary (48_frame_sync_controller.md R480). In every scheme the step depends only on how
many copies of the terminator's unit stand at the cursor, except that before a 2D row of a `K > 0` call `EOL0` is looked
for first. -/

namespace Sys2Proof.Proofs

open Sys2Proof.Machine

/-! ### Beginning a row -/

theorem rowBegun_beginRow (s : State) : Spec.RowBegun s s.bitpos s.beginRow := by
  cases hkind : s.rowKind with
  | oneD => rw [State.beginRow_oneD s hkind]
  | twoD => rw [State.beginRow_twoD s hkind]

theorem rowBegun_rowPrefix (s : State) (u : Instr) :
    Spec.RowBegun s (s.bitpos + (encode u).length) (s.rowPrefix u) :=
  rowBegun_beginRow (s.advance (encode u).length)

/-- A G3 call at whose cursor the row's marker is missing. -/
theorem noPrefix_g3 {s : State} (hg3 : 0 ≤ s.cfgK) :
    if s.cfgFlags.getLsbD 0 = true then Spec.ErrorStop .missingEOL s s.noPrefix
    else Spec.RowBegun s s.bitpos s.noPrefix := by
  split
  case isTrue hwanted => rw [State.noPrefix, if_pos ⟨hg3, hwanted⟩]; exact errorStop_raise _ s
  case isFalse hfree => rw [State.noPrefix, if_neg fun h => hfree h.2]; exact rowBegun_beginRow s

/-- A G4 row begins without a marker. -/
theorem noPrefix_g4 {s : State} (hg4 : s.cfgK < 0) : s.noPrefix = s.beginRow :=
  if_neg fun h => hg4.not_ge h.1

/-! ### Counting the terminator's units -/

/-- The state after a row boundary at which `n` copies of the terminator's unit `u` stand, where `lone` is what a number
of copies within the tolerance stands for. -/
def afterMarks (s : State) (u : Instr) (lone : State) (n : Nat) : State :=
  if n = termCount s.cfgK then (s.advance (termCount s.cfgK * (encode u).length)).finish
  else if tolerance s.cfgK < n then s.raise (corruptTerminator s.cfgK) s.bitpos
  else if n = 0 then s.noPrefix
  else lone

theorem afterMarks_zero (s : State) (u : Instr) (lone : State) : afterMarks s u lone 0 = s.noPrefix := by
  have hcount : 0 ≠ termCount s.cfgK := by
    unfold termCount
    split
    · decide
    · decide
  rw [afterMarks, if_neg hcount, if_neg (Nat.not_lt_zero _), if_pos rfl]

theorem afterMarks_succ (s : State) (u : Instr) (lone : State) (n : Nat) :
    afterMarks s u lone (n + 1) =
      if n + 1 = termCount s.cfgK then (s.advance (termCount s.cfgK * (encode u).length)).finish
      else if tolerance s.cfgK < n + 1 then s.raise (corruptTerminator s.cfgK) s.bitpos
      else lone := by
  rw [afterMarks, if_neg (Nat.succ_ne_zero n)]

/-- A unit at the cursor and those behind it. -/
theorem marker_of_count {s : State} {u : Instr} {lone : State} {n : Nat}
    (hcount : countMarks s.code s.codeBytes (encode u) (termCount s.cfgK - 1) (s.bitpos + (encode u).length) = some n) :
    s.marker u lone = .next (afterMarks s u lone (n + 1)) := by
  rw [State.marker, hcount, afterMarks_succ]
  dsimp only
  split
  · rfl
  · split
    · rfl
    · rfl

theorem termCount_pos (k : Int) : 0 < termCount k := by
  unfold termCount
  split
  · decide
  · decide

/-! ### The fetch at a row boundary -/

theorem decodeStep_of_instr {s : State} {c : Context} {f : Fetched} {i : Instr}
    (hfetch : fetchNextCode s.code s.codeBytes s.bitpos = some f) (hdecode : decode c f.window f.avail = .instr i) :
    s.decodeStep c = exec i s := by
  rw [State.decodeStep, hfetch]
  simp only [hdecode]

theorem decodeStep_of_noMarker {s : State} {c : Context} {f : Fetched}
    (hfetch : fetchNextCode s.code s.codeBytes s.bitpos = some f)
    (hdecode : decode c f.window f.avail = .reject .noMarker) : s.decodeStep c = .next s.noPrefix := by
  rw [State.decodeStep, hfetch]
  simp only [hdecode]

/-- Where the terminator's unit is the one marker the window can still be, the step depends on the count of R475
alone. -/
theorem decodeStep_of_unit {s : State} {c : Context} {f : Fetched} {u : Instr} {lone : State}
    (hwritten : Spec.Written s.code s.codeBytes) (hfetch : fetchNextCode s.code s.codeBytes s.bitpos = some f)
    (hdecode : decode c f.window f.avail =
      if (encode u).matches f.window f.avail then .instr u else .reject .noMarker)
    (hexec : exec u s = s.marker u lone) :
    ∃ n, countMarks s.code s.codeBytes (encode u) (termCount s.cfgK) s.bitpos = some n ∧ n ≤ termCount s.cfgK ∧
      s.decodeStep c = .next (afterMarks s u lone n) := by
  have hmatch := matchAt_of_fetch hfetch (encode u)
  obtain ⟨max, hmax⟩ := Nat.exists_eq_add_one.mpr (termCount_pos s.cfgK)
  rw [hmax]
  cases hcopy : (encode u).matches f.window f.avail with
  | false =>
    rw [hcopy] at hmatch hdecode
    exact ⟨0, countMarks_of_no_match hmatch max, Nat.zero_le _,
      by rw [decodeStep_of_noMarker hfetch hdecode, afterMarks_zero]⟩
  | true =>
    rw [hcopy] at hmatch hdecode
    obtain ⟨n, hcount, hle, -, -⟩ :=
      countMarksCountsCopies s.code s.codeBytes (encode u) max (s.bitpos + (encode u).length) hwritten
    have hbehind : countMarks s.code s.codeBytes (encode u) (termCount s.cfgK - 1) (s.bitpos + (encode u).length) =
        some n := by rwa [hmax, Nat.add_sub_cancel]
    exact ⟨n + 1, by rw [countMarks_of_match hmatch, hcount, Option.map_some], by omega,
      by rw [decodeStep_of_instr hfetch hdecode, hexec, marker_of_count hbehind]⟩

/-! ### The markers of the schemes -/

theorem mod_toNat_eq_zero_iff {k : Int} {i : Nat} (hk : 0 < k) : i % k.toNat = 0 ↔ Spec.RowIs1D k i := by
  rw [← rowKind_eq_oneD_iff, rowKind, if_neg hk.ne', if_pos hk]
  by_cases hdiv : i % k.toNat = 0
  · simp [hdiv]
  · simp [hdiv]

theorem g3_of_rowIs1D {k : Int} {i : Nat} (hrow : Spec.RowIs1D k i) : 0 ≤ k := by
  obtain hzero | ⟨hpos, -⟩ := hrow
  · exact hzero.ge
  · exact hpos.le

theorem syncSet_of_nonpos {k : Int} (hk : ¬ 0 < k) (i : Nat) : syncSet k i = .eol := if_neg hk

theorem syncSet_of_oneD {k : Int} {i : Nat} (hk : 0 < k) (hrow : Spec.RowIs1D k i) : syncSet k i = .eol1 := by
  rw [syncSet, if_pos hk, if_pos ((mod_toNat_eq_zero_iff hk).mpr hrow)]

theorem syncSet_of_twoD {k : Int} {i : Nat} (hk : 0 < k) (hrow : ¬ Spec.RowIs1D k i) : syncSet k i = .eol0OrEol1 := by
  rw [syncSet, if_pos hk, if_neg (mt (mod_toNat_eq_zero_iff hk).mp hrow)]

theorem context_boundary {s : State} {set : SyncSet} (hat : Spec.AtBoundary s)
    (hset : syncSet s.cfgK s.rowidx = set) : s.context = some (.sync set) := by
  obtain ⟨hbusy, hdir, hfstate⟩ := hat
  exact State.context_sync.mpr ⟨hbusy, hdir, hfstate, hset.symm⟩

theorem exec_eol {s : State} (hcontext : s.context = some (.sync .eol)) :
    exec .eol s = s.marker .eol (s.rowPrefix .eol) :=
  (exec_run .eol s).trans (State.inContext_of hcontext _)

theorem exec_eol0 {s : State} (hcontext : s.context = some (.sync .eol0OrEol1)) :
    exec .eol0 s = .next (s.rowPrefix .eol0) :=
  (exec_run .eol0 s).trans (State.inContext_of hcontext _)

theorem exec_eol1_oneD {s : State} (hcontext : s.context = some (.sync .eol1)) :
    exec .eol1 s = s.marker .eol1 (s.rowPrefix .eol1) := by
  have hother : s.context ≠ some (.sync .eol0OrEol1) := by rw [hcontext]; decide
  exact (exec_run .eol1 s).trans ((if_neg hother).trans (State.inContext_of hcontext _))

theorem exec_eol1_twoD {s : State} (hcontext : s.context = some (.sync .eol0OrEol1)) :
    exec .eol1 s = s.marker .eol1 s.noPrefix :=
  (exec_run .eol1 s).trans (if_pos hcontext)

/-! ### What the count decides in each scheme -/

theorem advance_finish (s : State) (n : Nat) : (s.advance n).finish = Spec.finishAt s (s.bitpos + n) := rfl

/-- A G3 call: RTC has six units, and one is within the tolerance. -/
theorem afterMarks_g3 {s : State} (hg3 : 0 ≤ s.cfgK) (u : Instr) (lone : State) (n : Nat) :
    afterMarks s u lone n =
      if n = 6 then Spec.finishAt s (s.bitpos + 6 * (encode u).length)
      else if 2 ≤ n then s.raise .corruptTerminatorRTC s.bitpos
      else if n = 1 then lone
      else s.noPrefix := by
  have hcount : termCount s.cfgK = 6 := if_neg hg3.not_gt
  have htolerance : tolerance s.cfgK = 1 := if_neg hg3.not_gt
  have herror : corruptTerminator s.cfgK = .corruptTerminatorRTC := if_neg hg3.not_gt
  rw [afterMarks, hcount, htolerance, herror, advance_finish]
  refine ite_congr rfl (fun _ => rfl) fun _ => ite_congr rfl (fun _ => rfl) fun hfew => ?_
  rcases (by omega : n = 0 ∨ n = 1) with rfl | rfl
  · rfl
  · rfl

/-- A G4 call: EOFB has two units, and not even one is within the tolerance. -/
theorem afterMarks_g4 {s : State} (hg4 : s.cfgK < 0) (u : Instr) (lone : State) {n : Nat} (hle : n ≤ 2) :
    afterMarks s u lone n =
      if n = 2 then Spec.finishAt s (s.bitpos + 2 * (encode u).length)
      else if n = 1 then s.raise .corruptTerminatorEOFB s.bitpos
      else s.beginRow := by
  have hcount : termCount s.cfgK = 2 := if_pos hg4
  have htolerance : tolerance s.cfgK = 0 := if_pos hg4
  have herror : corruptTerminator s.cfgK = .corruptTerminatorEOFB := if_pos hg4
  rw [afterMarks, hcount, htolerance, herror, advance_finish, noPrefix_g4 hg4]
  refine ite_congr rfl (fun _ => rfl) fun _ => ?_
  rcases (by omega : n = 0 ∨ n = 1) with rfl | rfl
  · rfl
  · rfl

/-! ### The branches of R480 -/

/-- Before a 1D row the step depends on the count of the terminator's units. -/
theorem decodeStep_oneD {s : State} (hat : Spec.AtBoundary s) (hwritten : Spec.Written s.code s.codeBytes)
    (hrow : Spec.RowIs1D s.cfgK s.rowidx) :
    ∃ u n, u = (if 0 < s.cfgK then Instr.eol1 else Instr.eol) ∧
      countMarks s.code s.codeBytes (encode u) 6 s.bitpos = some n ∧
      s.decodeStep (.sync (syncSet s.cfgK s.rowidx)) = .next (afterMarks s u (s.rowPrefix u) n) := by
  obtain ⟨f, hfetch⟩ := exists_fetch hwritten s.bitpos
  have hsix : termCount s.cfgK = 6 := if_neg (g3_of_rowIs1D hrow).not_gt
  by_cases hpos : 0 < s.cfgK
  · have hset := syncSet_of_oneD hpos hrow
    obtain ⟨n, hcount, -, hstep⟩ := decodeStep_of_unit (c := .sync .eol1) hwritten hfetch rfl
      (exec_eol1_oneD (context_boundary hat hset))
    exact ⟨.eol1, n, (if_pos hpos).symm, hsix ▸ hcount, hset ▸ hstep⟩
  · have hset := syncSet_of_nonpos hpos s.rowidx
    obtain ⟨n, hcount, -, hstep⟩ := decodeStep_of_unit (c := .sync .eol) hwritten hfetch rfl
      (exec_eol (context_boundary hat hset))
    exact ⟨.eol, n, (if_neg hpos).symm, hsix ▸ hcount, hset ▸ hstep⟩

/-- Before a 1D row: one unit is the row's marker. -/
theorem boundary_oneD {s : State} (hat : Spec.AtBoundary s) (hwritten : Spec.Written s.code s.codeBytes)
    (hmore : ¬ 8 * s.codeLen ≤ s.bitpos) (hrow : Spec.RowIs1D s.cfgK s.rowidx) :
    ∃ t, s.decodeStep (.sync (syncSet s.cfgK s.rowidx)) = .next t ∧ Spec.BoundaryOutcome s t := by
  have hg3 := g3_of_rowIs1D hrow
  obtain ⟨u, n, hunit, hcount, hstep⟩ := decodeStep_oneD hat hwritten hrow
  refine ⟨_, hstep, ?_⟩
  rw [Spec.BoundaryOutcome, if_neg hmore, if_pos hrow, afterMarks_g3 hg3]
  refine ⟨u, n, hunit, hcount, ?_⟩
  split_ifs with hterminator hcorrupt hprefix hwanted
  · rfl
  · exact errorStop_raise _ s
  · exact rowBegun_rowPrefix s u
  · exact (if_pos hwanted).mp (noPrefix_g3 hg3)
  · exact (if_neg hwanted).mp (noPrefix_g3 hg3)

/-- Before a 2D row of a `K > 0` call: `EOL0` is the row's marker, and a lone `EOL1` is not. -/
theorem boundary_twoD {s : State} (hat : Spec.AtBoundary s) (hwritten : Spec.Written s.code s.codeBytes)
    (hmore : ¬ 8 * s.codeLen ≤ s.bitpos) (hrow : ¬ Spec.RowIs1D s.cfgK s.rowidx) (hpos : 0 < s.cfgK) :
    ∃ t, s.decodeStep (.sync (syncSet s.cfgK s.rowidx)) = .next t ∧ Spec.BoundaryOutcome s t := by
  obtain ⟨f, hfetch⟩ := exists_fetch hwritten s.bitpos
  have hmatch : matchAt s.code s.codeLen.toNat s.bitpos (encode .eol0) =
      some ((encode .eol0).matches f.window f.avail) := matchAt_of_fetch hfetch _
  have hset := syncSet_of_twoD hpos hrow
  have hcontext := context_boundary hat hset
  rw [hset]
  by_cases hprefix : (encode .eol0).matches f.window f.avail = true
  · have hdecode : decode (.sync .eol0OrEol1) f.window f.avail = .instr .eol0 := if_pos hprefix
    refine ⟨_, (decodeStep_of_instr hfetch hdecode).trans (exec_eol0 hcontext), ?_⟩
    rw [Spec.BoundaryOutcome, if_neg hmore, if_neg hrow, if_pos hpos, hmatch,
      if_pos (congrArg some hprefix)]
    exact rowBegun_rowPrefix s .eol0
  · obtain ⟨n, hcount, -, hstep⟩ := decodeStep_of_unit (c := .sync .eol0OrEol1) hwritten hfetch (if_neg hprefix)
      (exec_eol1_twoD hcontext)
    have hsix : termCount s.cfgK = 6 := if_neg hpos.le.not_gt
    refine ⟨_, hstep, ?_⟩
    rw [Spec.BoundaryOutcome, if_neg hmore, if_neg hrow, if_pos hpos, hmatch,
      if_neg (mt Option.some.inj hprefix), afterMarks_g3 hpos.le, ite_self]
    refine ⟨n, hsix ▸ hcount, ?_⟩
    split_ifs with hterminator hcorrupt hwanted
    · rfl
    · exact errorStop_raise _ s
    · exact (if_pos hwanted).mp (noPrefix_g3 hpos.le)
    · exact (if_neg hwanted).mp (noPrefix_g3 hpos.le)

/-- A G4 call: a row has no marker, so without an `EOL` it begins at once. -/
theorem boundary_g4 {s : State} (hat : Spec.AtBoundary s) (hwritten : Spec.Written s.code s.codeBytes)
    (hmore : ¬ 8 * s.codeLen ≤ s.bitpos) (hg4 : s.cfgK < 0) :
    ∃ t, s.decodeStep (.sync (syncSet s.cfgK s.rowidx)) = .next t ∧ Spec.BoundaryOutcome s t := by
  obtain ⟨f, hfetch⟩ := exists_fetch hwritten s.bitpos
  have hset := syncSet_of_nonpos hg4.not_gt s.rowidx
  have htwo : termCount s.cfgK = 2 := if_pos hg4
  have hrow : ¬ Spec.RowIs1D s.cfgK s.rowidx := fun hone => (g3_of_rowIs1D hone).not_gt hg4
  obtain ⟨n, hcount, hle, hstep⟩ := decodeStep_of_unit (c := .sync .eol) hwritten hfetch rfl
    (exec_eol (context_boundary hat hset))
  rw [htwo] at hcount hle
  refine ⟨_, hset ▸ hstep, ?_⟩
  rw [Spec.BoundaryOutcome, if_neg hmore, if_neg hrow, if_neg hg4.not_gt, afterMarks_g4 hg4 _ _ hle]
  refine ⟨n, hcount, ?_⟩
  split_ifs with hterminator hcorrupt
  · rfl
  · exact errorStop_raise _ s
  · exact rowBegun_beginRow s

/-- The engine at a row boundary: the normal stop of an exhausted buffer (R483 (c)), else a fetch. -/
theorem step_boundary {s : State} (hhost : s.host = []) (hat : Spec.AtBoundary s) :
    step s = if 8 * s.codeLen ≤ s.bitpos then .next s.finish
      else s.decodeStep (.sync (syncSet s.cfgK s.rowidx)) := by
  obtain ⟨hbusy, hdir, hfstate⟩ := hat
  have hend : 8 * s.codeBytes ≤ s.bitpos ↔ 8 * s.codeLen ≤ s.bitpos := by
    unfold State.codeBytes
    omega
  rw [step_decoding hhost hbusy hdir, State.decodeEngineStep, hfstate]
  exact if_congr hend rfl rfl

/-- Settles O32: the exhausted buffer, then the three branches of R480. -/
theorem decodeAtARowBoundary : Obligations.DecodeAtARowBoundary := by
  intro s hhost hat hwritten
  rw [step_boundary hhost hat]
  by_cases hend : 8 * s.codeLen ≤ s.bitpos
  · refine ⟨s.finish, if_pos hend, ?_⟩
    rw [Spec.BoundaryOutcome, if_pos hend]
    rfl
  rw [if_neg hend]
  by_cases hrow : Spec.RowIs1D s.cfgK s.rowidx
  · exact boundary_oneD hat hwritten hend hrow
  rcases lt_trichotomy s.cfgK 0 with hg4 | hzero | hpos
  · exact boundary_g4 hat hwritten hend hg4
  · exact absurd (.inl hzero) hrow
  · exact boundary_twoD hat hwritten hend hrow hpos

end Sys2Proof.Proofs
end

section
/-! Decoding inside a row (30_encoding.md R92, R102; 44_decoding_tree.md R363): the trees answer exactly the codewords
of their contexts, and the windows without one are those that begin with a tree's one gap, a run of zero bits. -/

namespace Sys2Proof.Proofs

open Sys2Proof.Machine

/-! ### What a tree answers -/

/-- A walk through a tree that sorts the codewords answers one of them, and the bits it followed are that codeword's. -/
theorem mem_and_bits_of_walk {t : Tree} {j : Nat} {codes : List Instr} {w : Word} {i : Instr}
    (hsorts : sorts t j codes) (hwalk : t.walk w j none = some i) :
    i ∈ codes ∧ ∀ k, j ≤ k → k < (encode i).length → w.getLsbD (15 - k) = branchBit k i := by
  induction t generalizing j codes with
  | absent => cases hwalk
  | node p l r ihl ihr =>
    cases p with
    | some i' =>
      obtain ⟨rfl, hend, rfl, rfl⟩ := sorts_payload_iff.mp hsorts
      obtain rfl : i' = i := Option.some.inj ((walk_leaf w i' j none).symm.trans hwalk)
      exact ⟨List.mem_singleton_self _, fun k hle hlt => by omega⟩
    | none =>
      obtain ⟨-, -, hleft, hright⟩ := sorts_fork_iff.mp hsorts
      rw [Tree.walk, Option.none_or] at hwalk
      split at hwalk
      case isTrue => cases hwalk
      case isFalse =>
        suffices hchild : i ∈ codes ∧ w.getLsbD (15 - j) = branchBit j i ∧
            ∀ k, j + 1 ≤ k → k < (encode i).length → w.getLsbD (15 - k) = branchBit k i by
          obtain ⟨hmem, hbit, hbits⟩ := hchild
          refine ⟨hmem, fun k hle hlt => ?_⟩
          rcases hle.eq_or_lt with rfl | hgt
          · exact hbit
          · exact hbits k hgt hlt
        split at hwalk
        case isTrue hone =>
          obtain ⟨hmem, hbits⟩ := ihr hright hwalk
          obtain ⟨hmem, hbranch⟩ := List.mem_filter.mp hmem
          exact ⟨hmem, hone.trans hbranch.symm, hbits⟩
        case isFalse hzero =>
          obtain ⟨hmem, hbits⟩ := ihl hleft hwalk
          obtain ⟨hmem, hbranch⟩ := List.mem_filter.mp hmem
          simp only [Bool.not_eq_true, Bool.not_eq_true'] at hzero hbranch
          exact ⟨hmem, hzero.trans hbranch.symm, hbits⟩

/-- `lookup` answers only codewords that the tree sorts and the window spells. -/
theorem spells_of_lookup {t : Tree} {codes : List Instr} {w : Word} {i : Instr} (hsorts : sorts t 0 codes)
    (hlookup : lookup t w 0 = some i) : i ∈ codes ∧ Spec.Spells (encode i) w := by
  obtain ⟨hmem, hbits⟩ := mem_and_bits_of_walk hsorts hlookup
  exact ⟨hmem, fun k hlt => hbits k k.zero_le hlt⟩

/-! ### Where a tree has no answer -/

/-- Whatever the bits, a walk from this node of depth `j` on comes to a codeword. -/
def complete : Tree → (j : Nat) → Bool
  | .absent, _ => false
  | .node (some _) _ _, _ => true
  | .node none l r, j => decide (j ≤ 15) && complete l (j + 1) && complete r (j + 1)

/-- From this node of depth `j` on, `n` zero bits lead where there is no node, and every other path to a codeword. -/
def gapAfterZeros : (n : Nat) → Tree → (j : Nat) → Bool
  | 0, t, _ => t == .absent
  | n + 1, .node none l r, j => decide (j ≤ 15) && gapAfterZeros n l (j + 1) && complete r (j + 1)
  | _ + 1, _, _ => false

/-- A walk that has met a codeword answers one. -/
theorem walk_some_ne_none (w : Word) (t : Tree) (j : Nat) (i : Instr) : t.walk w j (some i) ≠ none := by
  induction t generalizing j i with
  | absent => simp [Tree.walk]
  | node p l r ihl ihr =>
    obtain ⟨i', hmet⟩ : ∃ i', p.or (some i) = some i' := by
      cases p with
      | none => exact ⟨i, rfl⟩
      | some i' => exact ⟨i', rfl⟩
    rw [Tree.walk, hmet]
    split_ifs
    · exact Option.some_ne_none i'
    · exact ihr _ _
    · exact ihl _ _

/-- A branch inside the field: the next bit says where the walk goes. -/
theorem walk_branch {j : Nat} (hfield : j ≤ 15) (w : Word) (l r : Tree) :
    (Tree.node none l r).walk w j none =
      if w.getLsbD (15 - j) then r.walk w (j + 1) none else l.walk w (j + 1) none := by
  rw [Tree.walk, if_neg hfield.not_gt, Option.none_or]

theorem walk_ne_none_of_complete {t : Tree} {j : Nat} (hcomplete : complete t j) (w : Word) :
    t.walk w j none ≠ none := by
  induction t generalizing j with
  | absent => cases hcomplete
  | node p l r ihl ihr =>
    cases p with
    | some i =>
      rw [Tree.walk, Option.some_or]
      split_ifs
      · exact Option.some_ne_none i
      · exact walk_some_ne_none w r _ i
      · exact walk_some_ne_none w l _ i
    | none =>
      simp only [complete, Bool.and_eq_true, decide_eq_true_eq] at hcomplete
      obtain ⟨⟨hfield, hleft⟩, hright⟩ := hcomplete
      rw [walk_branch hfield]
      split_ifs
      · exact ihr hright
      · exact ihl hleft

/-- A walk has no answer exactly when its bits lead into the gap. -/
theorem walk_eq_none_iff {n : Nat} {t : Tree} {j : Nat} (hgap : gapAfterZeros n t j) (w : Word) :
    t.walk w j none = none ↔ ∀ k, j ≤ k → k < j + n → w.getLsbD (15 - k) = false := by
  induction n generalizing t j with
  | zero =>
    obtain rfl : t = .absent := beq_iff_eq.mp hgap
    simp only [Tree.walk, true_iff]
    omega
  | succ n ih =>
    match t with
    | .absent => cases hgap
    | .node (some _) _ _ => cases hgap
    | .node none l r =>
      simp only [gapAfterZeros, Bool.and_eq_true, decide_eq_true_eq] at hgap
      obtain ⟨⟨hfield, hleft⟩, hright⟩ := hgap
      rw [walk_branch hfield]
      split_ifs with hbit
      · refine iff_of_false (walk_ne_none_of_complete hright w) fun hzeros => ?_
        rw [hzeros j le_rfl (by omega)] at hbit
        cases hbit
      · rw [ih hleft]
        refine ⟨fun hzeros k hle hlt => ?_, fun hzeros k hle hlt => hzeros k (by omega) (by omega)⟩
        rcases hle.eq_or_lt with rfl | hgt
        · exact Bool.not_eq_true _ ▸ hbit
        · exact hzeros k hgt (by omega)

theorem gap_whiteTree : gapAfterZeros 8 whiteTree 0 := by decide

theorem gap_blackTree : gapAfterZeros 8 blackTree 0 := by decide

theorem gap_ctrlTree : gapAfterZeros 6 ctrlTree 0 := by decide

/-! ### The contexts of a row -/

/-- The contexts read inside a row (R92), each with its tree, the zero bits no codeword of it begins with (R102), and
what the decoder says of a window that begins with them. -/
inductive TreeContext : (c : Context) → (t : Tree) → (zeros : Nat) → (why : Reject) → Prop
  | white : TreeContext .white whiteTree 8 .invalidRunCode
  | black : TreeContext .black blackTree 8 .invalidRunCode
  | ctrl2d : TreeContext .ctrl2d ctrlTree 6 .invalidControlCode

section
variable {c : Context} {t : Tree} {zeros : Nat} {why : Reject} (htree : TreeContext c t zeros why)

theorem treeContext_ofColour (k : Colour) : ∃ t, TreeContext (Context.ofColour k) t 8 .invalidRunCode := by
  cases k with
  | white => exact ⟨whiteTree, .white⟩
  | black => exact ⟨blackTree, .black⟩

include htree

theorem decode_treeContext (w : Word) (avail : Nat) :
    decode c w avail = (lookup t w 0).elim (.reject why) .instr := by
  cases htree with
  | white => rw [decode]; cases lookup whiteTree w 0 <;> rfl
  | black => rw [decode]; cases lookup blackTree w 0 <;> rfl
  | ctrl2d => rw [decode]; cases lookup ctrlTree w 0 <;> rfl

theorem sorts_treeContext : sorts t 0 c.codewords := by
  cases htree with
  | white => exact sorts_whiteTree
  | black => exact sorts_blackTree
  | ctrl2d => exact sorts_ctrlTree

theorem hangsIn_treeContext {i : Instr} (hi : i ∈ c.codewords) : HangsIn t i := by
  cases htree with
  | white => exact hangsIn_whiteTree i hi
  | black => exact hangsIn_blackTree i hi
  | ctrl2d => exact hangsIn_ctrlTree i hi

theorem lookup_eq_none_iff_zeros {w : Word} :
    lookup t w 0 = none ↔ ∀ j, j < zeros → w.getLsbD (15 - j) = false := by
  have hgap : gapAfterZeros zeros t 0 := by
    cases htree with
    | white => exact gap_whiteTree
    | black => exact gap_blackTree
    | ctrl2d => exact gap_ctrlTree
  simpa only [lookup, Nat.zero_le, true_imp_iff, Nat.zero_add] using walk_eq_none_iff hgap w

theorem lookup_eq_none_iff_not_spelled {w : Word} :
    lookup t w 0 = none ↔ ∀ i, i ∈ c.codewords → ¬ Spec.Spells (encode i) w := by
  refine ⟨fun hnone i hi hspells => ?_, fun hfree => Option.eq_none_iff_forall_ne_some.mpr fun i hlookup => ?_⟩
  · rw [lookup_of_spells (hangsIn_treeContext htree hi) hspells] at hnone
    cases hnone
  · obtain ⟨hi, hspells⟩ := spells_of_lookup (sorts_treeContext htree) hlookup
    exact hfree i hi hspells

/-- R102: a window spells no codeword of its context exactly when it begins with the context's zero bits. -/
theorem not_spelled_iff_zeros {w : Word} :
    (∀ i, i ∈ c.codewords → ¬ Spec.Spells (encode i) w) ↔ ∀ j, j < zeros → w.getLsbD (15 - j) = false :=
  (lookup_eq_none_iff_not_spelled htree).symm.trans (lookup_eq_none_iff_zeros htree)

theorem decode_of_spells {i : Instr} {w : Word} (hi : i ∈ c.codewords) (hspells : Spec.Spells (encode i) w)
    (avail : Nat) : decode c w avail = .instr i := by
  rw [decode_treeContext htree, lookup_of_spells (hangsIn_treeContext htree hi) hspells, Option.elim_some]

theorem decode_of_not_spelled {w : Word} (hfree : ∀ i, i ∈ c.codewords → ¬ Spec.Spells (encode i) w) (avail : Nat) :
    decode c w avail = .reject why := by
  rw [decode_treeContext htree, (lookup_eq_none_iff_not_spelled htree).mpr hfree, Option.elim_none]

end

end Sys2Proof.Proofs
end

section
/-! The errors inside a row (60_exceptions.md R542, R543, R547, R548): the window that the engine fetches, what it does
when the window spells a codeword and when it spells none, and the checks a codeword fails. -/

namespace Sys2Proof.Proofs

open Sys2Proof.Machine

/-! ### The fetched window -/

/-- The loop of R380 gives the word whose low `k` bits are the stream's next ones and whose others were there before. -/
theorem windowFrom_eq_some {m : Memory} {n k p : Nat} {v w : Word}
    (hnew : ∀ j, j < k → streamBit m n (p + j) = some (w.getLsbD (k - 1 - j)))
    (hold : ∀ j, k + j < 16 → w.getLsbD (k + j) = v.getLsbD j) : windowFrom m n k p v = some w := by
  induction k generalizing p v with
  | zero =>
    refine congrArg some (BitVec.eq_of_getLsbD_eq fun j hj => ?_)
    rw [← hold j (by omega), Nat.zero_add]
  | succ k ih =>
    have hfirst : streamBit m n p = some (w.getLsbD k) := hnew 0 k.succ_pos
    rw [windowFrom_succ hfirst]
    refine ih (fun j hj => ?_) fun j hj => ?_
    · have hbit := hnew (j + 1) (by omega)
      rwa [show p + (j + 1) = p + 1 + j by omega, show k + 1 - 1 - (j + 1) = k - 1 - j by omega] at hbit
    · cases j with
      | zero => rw [getLsbD_zero_shiftIn, Nat.add_zero]
      | succ j => rw [getLsbD_succ_shiftIn _ _ (by omega), ← hold j (by omega)]; congr 1; omega

/-- The engine fetches the window at its cursor. -/
theorem fetch_windowAt {s : State} {w : Word} (hwindow : Spec.WindowAt s w) :
    fetchNextCode s.code s.codeBytes s.bitpos = some ⟨w, s.genuine, s.bitpos + s.genuine⟩ := by
  have hloop : windowFrom s.code s.codeBytes 16 s.bitpos 0 = some w := by
    refine windowFrom_eq_some (fun j hj => ?_) fun j hj => absurd hj (by omega)
    have hbit := hwindow j hj
    have hend : ((s.bitpos + j : Nat) : Int) < 8 * s.codeLen ↔ s.bitpos + j < 8 * s.codeBytes := by
      unfold State.codeBytes
      omega
    split at hbit
    case isTrue hlt => rw [streamBit_of_lt _ (hend.mp hlt)]; exact hbit
    case isFalse hge => rw [streamBit_of_le _ (not_lt.mp (mt hend.mpr hge))]; exact congrArg some hbit.symm
  rw [fetchNextCode, hloop]
  rfl

theorem genuine_lt_iff {s : State} : s.genuine < 16 ↔ ¬ Spec.Genuine s 16 := by
  unfold State.genuine genuineBits State.codeBytes
  omega

/-! ### The step inside a row -/

section
variable {s : State} {w : Word} {c : Context} {t : Tree} {zeros : Nat} {why : Reject}
  (hhost : s.host = []) (hrow : Spec.InRow s) (hcontext : s.context = some c) (hwindow : Spec.WindowAt s w)
  (htree : TreeContext c t zeros why)
include hhost hrow hcontext

/-- Inside a row the step is a fetch in the context of the state. -/
theorem step_inRow : step s = s.decodeStep c := by
  obtain ⟨hbusy, hdir, hfstate⟩ := hrow
  have hinside : s.fstate ≠ .awaitingSync := by rw [hfstate]; decide
  rw [step_decoding hhost hbusy hdir, State.decodeEngineStep_of_context hcontext fun h => absurd h hinside]

include hwindow htree

/-- A spelled codeword is executed. -/
theorem step_of_spells {i : Instr} (hi : i ∈ c.codewords) (hspells : Spec.Spells (encode i) w) : step s = exec i s :=
  (step_inRow hhost hrow hcontext).trans
    (decodeStep_of_instr (fetch_windowAt hwindow) (decode_of_spells htree hi hspells _))

/-- Where no codeword is spelled the error is raised at the first bit of the window. -/
theorem step_of_not_spelled (hfree : ∀ i, i ∈ c.codewords → ¬ Spec.Spells (encode i) w) :
    step s = .next (s.raise (noMatchError why s.genuine) s.bitpos) := by
  rw [step_inRow hhost hrow hcontext, State.decodeStep, fetch_windowAt hwindow]
  simp only [decode_of_not_spelled htree hfree]
  cases htree with
  | white => rfl
  | black => rfl
  | ctrl2d => rfl

/-- With 16 genuine bits the window decides: its context's zero bits are the invalid code, any other window is
executed. -/
theorem step_of_genuine (hgenuine : Spec.Genuine s 16) :
    ((∀ j, j < zeros → w.getLsbD (15 - j) = false) → step s = .next (s.raise (noMatchError why 16) s.bitpos)) ∧
    (¬ (∀ j, j < zeros → w.getLsbD (15 - j) = false) →
      ∃ i, i ∈ c.codewords ∧ Spec.Spells (encode i) w ∧ step s = exec i s) := by
  have hfull : s.genuine = 16 := le_antisymm (min_le_left _ _) (not_lt.mp fun h => genuine_lt_iff.mp h hgenuine)
  rw [← not_spelled_iff_zeros htree]
  refine ⟨fun hfree => hfull ▸ step_of_not_spelled hhost hrow hcontext hwindow htree hfree, fun hspelled => ?_⟩
  push Not at hspelled
  obtain ⟨i, hi, hspells⟩ := hspelled
  exact ⟨i, hi, hspells, step_of_spells hhost hrow hcontext hwindow htree hi hspells⟩

end

/-- Settles O25: the window's six zero bits are the gap of the control codes' tree. -/
theorem invalidControlCodeIsRaised : Obligations.InvalidControlCodeIsRaised := by
  intro s w hhost hreads hgenuine hwindow
  have ⟨hrow, _⟩ := hreads
  obtain ⟨hinvalid, hvalid⟩ := step_of_genuine hhost hrow (context_ctrl2d_iff_readsControl.mpr hreads) hwindow .ctrl2d
    hgenuine
  exact ⟨fun hzeros => ⟨_, hinvalid hzeros, errorStop_raise _ s⟩, hvalid⟩

/-- The codewords of a colour's context are its run codes. -/
theorem codewords_ofColour (k : Colour) :
    (Context.ofColour k).codewords = terminals k ++ makeups k ++ sharedMakeups := by
  cases k with
  | white => rfl
  | black => rfl

/-- Settles O26: the window's eight zero bits are the gap of either colour's tree. -/
theorem invalidRunCodeIsRaised : Obligations.InvalidRunCodeIsRaised := by
  intro c s w hhost hreads hgenuine hwindow
  have ⟨hrow, _⟩ := hreads
  obtain ⟨t, htree⟩ := treeContext_ofColour c
  obtain ⟨hinvalid, hvalid⟩ := step_of_genuine hhost hrow (context_ofColour_iff_readsRun.mpr hreads) hwindow htree
    hgenuine
  exact ⟨fun hzeros => ⟨_, hinvalid hzeros, errorStop_raise _ s⟩, codewords_ofColour c ▸ hvalid⟩

/-! ### The checks of a codeword -/

/-- A run code that the end of the stream cuts is `BufferExhausted` (R402). -/
theorem runCode_exhausted {s : State} {i : Instr} (act : State → State) (hcut : ¬ Spec.Genuine s (encode i).length) :
    s.runCode i act = .next (s.raise .bufferExhausted s.bitpos) :=
  if_pos (Nat.lt_of_not_le (mt length_le_genuine_iff.mp hcut))

/-- A run code that would take the line past `Columns` is `RunOutOfRange` (R402). -/
theorem runCode_outOfRange {s : State} {i : Instr} (act : State → State) (hgenuine : Spec.Genuine s (encode i).length)
    (hline : 0 ≤ s.cfgColumns) (hpast : s.cfgColumns < ((s.col + s.runacc + i.runLength : Nat) : Int)) :
    s.runCode i act = .next (s.raise .runOutOfRange s.bitpos) := by
  have hbits : (encode i).length ≤ s.genuine := length_le_genuine_iff.mpr hgenuine
  have hcolumns : s.columns < s.col + s.runacc + i.runLength := by
    unfold State.columns
    omega
  rw [State.runCode, if_neg hbits.not_gt, if_pos hcolumns]

/-- The tables of a colour list the codewords of its context. -/
theorem codewords_ofColour_eq_rows (k : Colour) :
    (Context.ofColour k).codewords = (Spec.terminalRows k ++ Spec.makeupRows k).map Prod.fst := by
  cases k with
  | white => rfl
  | black => rfl

/-- A run code in its context makes the checks of R402 and then acts; its row of the tables names run and length. -/
theorem exec_runRow {c : Colour} {i : Instr} {r n : Nat} {s : State}
    (hrow : (i, r, n) ∈ Spec.terminalRows c ++ Spec.makeupRows c) (hreads : Spec.ReadsRun c s) :
    i.runLength = r ∧ (encode i).length = n ∧ ∃ act, exec i s = s.runCode i act := by
  have hcontext := context_ofColour_iff_readsRun.mpr hreads
  have ⟨_, hcolor, _⟩ := hreads
  rcases List.mem_append.mp hrow with hterminal | hmakeup
  · obtain ⟨hoperand, hrun, hlength⟩ := terminalRow_spec hterminal
    have hexec : exec i s = s.terminalCode c i := by rw [exec_run, hoperand]
    exact ⟨hrun, hlength, _, hexec.trans (State.inContext_of hcontext _)⟩
  · obtain ⟨hoperand, hrun, hlength⟩ := makeupRow_spec hmakeup
    exact ⟨hrun, hlength, _, (exec_eq_makeupCode hoperand hcolor).trans (State.inContext_of hcontext _)⟩

theorem exec_control {i : Instr} (hi : i ∈ controlCodes) (s : State) : ∃ act, exec i s = s.controlCode i act := by
  simp only [controlCodes, List.mem_cons, List.not_mem_nil, or_false] at hi
  rcases hi with rfl | rfl | rfl | rfl | rfl | rfl | rfl | rfl | rfl <;> exact ⟨_, exec_run _ s⟩

/-- Settles O28: the range check of R402 for every row of the run tables, and the one of R441. -/
theorem runOutOfRangeIsRaised : Obligations.RunOutOfRangeIsRaised := by
  refine ⟨fun c i r n s hrow hreads hgenuine hline hpast => ?_, fun i d n s hrow => ?_⟩
  · obtain ⟨rfl, rfl, act, hexec⟩ := exec_runRow hrow hreads
    exact ⟨_, hexec.trans (runCode_outOfRange act hgenuine hline hpast), errorStop_raise _ s⟩
  · obtain ⟨-, houtside, -⟩ := verticalCodes i d n hrow
    exact houtside s

/-- A codeword of the row's context that the end of the stream cuts is `BufferExhausted`. -/
theorem exec_exhausted {s : State} {c : Context} {i : Instr}
    (hreads : c = .ctrl2d ∧ Spec.ReadsControl s ∨ ∃ k, c = Context.ofColour k ∧ Spec.ReadsRun k s)
    (hi : i ∈ c.codewords) (hcut : ¬ Spec.Genuine s (encode i).length) :
    exec i s = .next (s.raise .bufferExhausted s.bitpos) := by
  obtain ⟨rfl, hcontrol⟩ | ⟨k, rfl, hrun⟩ := hreads
  · obtain ⟨act, hexec⟩ := exec_control hi s
    exact hexec.trans (controlCode_exhausted act hcontrol hcut)
  · rw [codewords_ofColour_eq_rows] at hi
    obtain ⟨⟨i, r, n⟩, hrow, rfl⟩ := List.mem_map.mp hi
    obtain ⟨-, -, act, hexec⟩ := exec_runRow hrow hrun
    exact hexec.trans (runCode_exhausted act hcut)

/-- What is read inside a row is read in a tree context. -/
theorem treeContext_of_reads {s : State} {c : Context}
    (hreads : c = .ctrl2d ∧ Spec.ReadsControl s ∨ ∃ k, c = Context.ofColour k ∧ Spec.ReadsRun k s) :
    Spec.InRow s ∧ s.context = some c ∧ ∃ t zeros why, TreeContext c t zeros why := by
  obtain ⟨rfl, hcontrol⟩ | ⟨k, rfl, hrun⟩ := hreads
  · have ⟨hrow, _⟩ := hcontrol
    exact ⟨hrow, context_ctrl2d_iff_readsControl.mpr hcontrol, _, _, _, .ctrl2d⟩
  · have ⟨hrow, _⟩ := hrun
    obtain ⟨t, htree⟩ := treeContext_ofColour k
    exact ⟨hrow, context_ofColour_iff_readsRun.mpr hrun, t, _, _, htree⟩

end Sys2Proof.Proofs
end

section
/-! The error stop as the one way an error comes about (60_exceptions.md R552): every step either leaves `ERR` as it was
or is the error stop, at a row boundary and inside a row with errors of its own. -/

namespace Sys2Proof.Proofs

open Sys2Proof.Machine

/-- The errors a decode call can raise in a frame state (R541 to R548). -/
def errorsIn : FState → List ErrKind
  | .awaitingSync => [.missingEOL, .corruptTerminatorRTC, .corruptTerminatorEOFB]
  | .decodingRow => [.invalidControlCode, .invalidRunCode, .bufferExhausted, .runOutOfRange]
  | .idle | .rowComplete | .terminated => []

/-- `t` has the `ERR` of `s`, or is the error stop of `s` for an error of its frame state. -/
def KeepsErrOrStops (s t : State) : Prop :=
  t.err = s.err ∨ ∃ e, e ∈ errorsIn s.fstate ∧ t = s.raise e s.bitpos

theorem raise_keepsErrOrStops {s : State} {e : ErrKind} {f : FState} (hfstate : s.fstate = f) (he : e ∈ errorsIn f) :
    KeepsErrOrStops s (s.raise e s.bitpos) :=
  .inr ⟨e, hfstate.symm ▸ he, rfl⟩

/-! ### Codewords read inside a row -/

@[simp] theorem terminalAction_err (s : State) (r : Nat) : (s.terminalAction r).err = s.err := by
  cases hphase : s.hphase with
  | none => rw [State.terminalAction_none s r hphase]
  | first => rw [State.terminalAction_first s r hphase]
  | second => rw [State.terminalAction_second s r hphase]

/-- A run code in its context, if its action keeps `ERR`. -/
theorem runCode_keepsErrOrStops {s t : State} {c : Colour} {i : Instr} {act : State → State}
    (hact : ∀ u, (act u).err = u.err) (hexec : s.inContext (Context.ofColour c) (s.runCode i act) = .next t) :
    KeepsErrOrStops s t := by
  obtain ⟨hcontext, hrun⟩ := State.inContext_next hexec
  obtain ⟨-, -, hfstate, -⟩ := State.context_ofColour.mp hcontext
  obtain ⟨-, hanswer⟩ | ⟨-, -, hanswer⟩ | ⟨-, -, hanswer⟩ := s.runCode_cases i act
  · cases hanswer.symm.trans hrun
    exact raise_keepsErrOrStops hfstate (by decide)
  · cases hanswer.symm.trans hrun
    exact raise_keepsErrOrStops hfstate (by decide)
  · cases hanswer.symm.trans hrun
    exact .inl ((hact _).trans (State.advance_err s _))

/-- A control code, if its action keeps `ERR` or is an error stop inside the row. -/
theorem controlCode_keepsErrOrStops {s t : State} {i : Instr} {act : State → State}
    (hact : s.fstate = .decodingRow → KeepsErrOrStops s (act s)) (hexec : s.controlCode i act = .next t) :
    KeepsErrOrStops s t := by
  obtain ⟨hcontext, houtcome⟩ := State.controlCode_next hexec
  obtain ⟨-, -, hfstate, -⟩ := State.context_ctrl2d.mp hcontext
  obtain rfl | ⟨-, -, rfl⟩ := houtcome
  · exact raise_keepsErrOrStops hfstate (by decide)
  · exact hact hfstate

theorem verticalAction_keepsErrOrStops {s : State} (hfstate : s.fstate = .decodingRow) (n : Nat) (d : Int) :
    KeepsErrOrStops s (s.verticalAction n d) := by
  rw [State.verticalAction_eq]
  split
  · exact raise_keepsErrOrStops hfstate (by decide)
  · exact .inl rfl

/-! ### Sync codes -/

theorem noPrefix_keepsErrOrStops {s : State} (hfstate : s.fstate = .awaitingSync) : KeepsErrOrStops s s.noPrefix := by
  unfold State.noPrefix
  split
  · exact raise_keepsErrOrStops hfstate (by decide)
  · exact .inl (State.beginRow_err s)

theorem rowPrefix_err (s : State) (u : Instr) : (s.rowPrefix u).err = s.err := by
  rw [State.rowPrefix, State.beginRow_err, State.advance_err]

theorem corruptTerminator_mem (k : Int) : corruptTerminator k ∈ errorsIn .awaitingSync := by
  unfold corruptTerminator
  split
  · decide
  · decide

theorem marker_keepsErrOrStops {s t o : State} {u : Instr} (hfstate : s.fstate = .awaitingSync)
    (hother : KeepsErrOrStops s o) (hmarker : s.marker u o = .next t) : KeepsErrOrStops s t := by
  obtain ⟨-, hanswer⟩ | ⟨k, -, ⟨-, hanswer⟩ | ⟨-, -, hanswer⟩ | ⟨-, -, hanswer⟩⟩ := s.marker_cases u o
  · cases hanswer.symm.trans hmarker
  · cases hanswer.symm.trans hmarker
    exact .inl rfl
  · cases hanswer.symm.trans hmarker
    exact raise_keepsErrOrStops hfstate (corruptTerminator_mem _)
  · cases hanswer.symm.trans hmarker
    exact hother

theorem execEOL_keepsErrOrStops {s t : State} (hexec : execEOL s = .next t) : KeepsErrOrStops s t := by
  obtain ⟨hcontext, hmarker⟩ := State.inContext_next hexec
  obtain ⟨-, -, hfstate, -⟩ := State.context_sync.mp hcontext
  exact marker_keepsErrOrStops hfstate (.inl (rowPrefix_err s _)) hmarker

theorem execEOL0_keepsErrOrStops {s t : State} (hexec : execEOL0 s = .next t) : KeepsErrOrStops s t := by
  obtain ⟨-, hnext⟩ := State.inContext_next hexec
  cases hnext
  exact .inl (rowPrefix_err s _)

theorem execEOL1_keepsErrOrStops {s t : State} (hexec : execEOL1 s = .next t) : KeepsErrOrStops s t := by
  unfold execEOL1 at hexec
  split at hexec
  case isTrue hcontext =>
    obtain ⟨-, -, hfstate, -⟩ := State.context_sync.mp hcontext
    exact marker_keepsErrOrStops hfstate (noPrefix_keepsErrOrStops hfstate) hexec
  case isFalse =>
    obtain ⟨hcontext, hmarker⟩ := State.inContext_next hexec
    obtain ⟨-, -, hfstate, -⟩ := State.context_sync.mp hcontext
    exact marker_keepsErrOrStops hfstate (.inl (rowPrefix_err s _)) hmarker

/-! ### Steps of a decode call -/

/-- Executing a codeword, by what it stands for. -/
theorem exec_keepsErrOrStops {s t : State} {i : Instr} (hexec : exec i s = .next t) : KeepsErrOrStops s t := by
  rw [exec_run] at hexec
  split at hexec
  · exact runCode_keepsErrOrStops (terminalAction_err · _) hexec
  · exact runCode_keepsErrOrStops (State.makeupAction_err · _) hexec
  · exact runCode_keepsErrOrStops (State.makeupAction_err · _) hexec
  · exact controlCode_keepsErrOrStops (fun _ => .inl (by rw [State.passAction_eq])) hexec
  · exact controlCode_keepsErrOrStops (fun _ => .inl (State.horizontalAction_err s _)) hexec
  · exact controlCode_keepsErrOrStops (fun hfstate => verticalAction_keepsErrOrStops hfstate _ _) hexec
  · exact execEOL_keepsErrOrStops hexec
  · exact execEOL0_keepsErrOrStops hexec
  · exact execEOL1_keepsErrOrStops hexec

/-- The missing marker is what the decoder says at a row boundary, and only there (R105). -/
theorem noMarker_iff_sync {c : Context} {w : Word} {avail : Nat} {why : Reject}
    (hreject : decode c w avail = .reject why) : why = .noMarker ↔ ∃ set, c = .sync set := by
  match c with
  | .white | .black | .ctrl2d =>
    refine iff_of_false ?_ (fun ⟨_, h⟩ => by cases h)
    rintro rfl
    rw [decode] at hreject
    split at hreject <;> cases hreject
  | .sync set =>
    refine iff_of_true ?_ ⟨set, rfl⟩
    cases set with
    | eol | eol1 =>
      rw [decode] at hreject
      split at hreject
      · cases hreject
      · cases hreject; rfl
    | eol0OrEol1 =>
      rw [decode] at hreject
      split_ifs at hreject
      cases hreject; rfl

theorem noMatchError_mem (why : Reject) (avail : Nat) : noMatchError why avail ∈ errorsIn .decodingRow := by
  unfold noMatchError
  split
  · decide
  · cases why <;> decide

/-- A context other than that of a row boundary is one of a row. -/
theorem decodingRow_of_context {s : State} {c : Context} (hcontext : s.context = some c) (hrow : ∀ set, c ≠ .sync set) :
    s.fstate = .decodingRow := by
  match c with
  | .white =>
    obtain ⟨-, -, hfstate, -⟩ := State.context_ofColour (c := .white).mp hcontext
    exact hfstate
  | .black =>
    obtain ⟨-, -, hfstate, -⟩ := State.context_ofColour (c := .black).mp hcontext
    exact hfstate
  | .ctrl2d =>
    obtain ⟨-, -, hfstate, -⟩ := State.context_ctrl2d.mp hcontext
    exact hfstate
  | .sync set => exact absurd rfl (hrow set)

/-- A fetch in the context of the state. -/
theorem decodeStep_keepsErrOrStops {s t : State} {c : Context} (hcontext : s.context = some c)
    (hstep : s.decodeStep c = .next t) : KeepsErrOrStops s t := by
  obtain ⟨-, hanswer⟩ | ⟨f, -, ⟨i, -, hanswer⟩ | ⟨hdecode, hanswer⟩ | ⟨why, hwhy, hdecode, hanswer⟩⟩ :=
    s.decodeStep_cases c
  · cases hanswer.symm.trans hstep
  · exact exec_keepsErrOrStops (hanswer.symm.trans hstep)
  · obtain ⟨set, rfl⟩ := (noMarker_iff_sync hdecode).mp rfl
    obtain ⟨-, -, hfstate, -⟩ := State.context_sync.mp hcontext
    cases hanswer.symm.trans hstep
    exact noPrefix_keepsErrOrStops hfstate
  · have hrow : ∀ set, c ≠ .sync set := fun set hsync => hwhy ((noMarker_iff_sync hdecode).mpr ⟨set, hsync⟩)
    cases hanswer.symm.trans hstep
    exact raise_keepsErrOrStops (decodingRow_of_context hcontext hrow) (noMatchError_mem why f.avail)

theorem decodeRowComplete_err {s t : State} (hstep : s.decodeRowComplete = .next t) : t.err = s.err := by
  obtain ⟨-, -, ⟨-, rfl⟩ | ⟨-, rfl⟩⟩ := State.decodeRowComplete_next hstep
  · rfl
  · rfl

theorem decodeEngineStep_keepsErrOrStops {s t : State} (hbusy : s.busy = true) (hdir : s.dirl = .decode)
    (hstep : s.decodeEngineStep = .next t) : KeepsErrOrStops s t := by
  obtain ⟨-, -, rfl⟩ | ⟨hfstate, -, hfetch⟩ | ⟨-, c, hcontext, hfetch⟩ | ⟨-, hclose⟩ :=
    State.decodeEngineStep_next hstep
  · exact .inl rfl
  · exact decodeStep_keepsErrOrStops (State.context_sync.mpr ⟨hbusy, hdir, hfstate, rfl⟩) hfetch
  · exact decodeStep_keepsErrOrStops hcontext hfetch
  · exact .inl (decodeRowComplete_err hclose)

theorem step_keepsErrOrStops {s t : State} (hhost : s.host = []) (hbusy : s.busy = true) (hdir : s.dirl = .decode)
    (hstep : step s = .next t) : KeepsErrOrStops s t :=
  decodeEngineStep_keepsErrOrStops hbusy hdir ((step_decoding hhost hbusy hdir).symm.trans hstep)

/-- Settles O27: a window without a codeword, a codeword longer than the genuine bits, a row boundary's errors. -/
theorem bufferExhaustedIsRaised : Obligations.BufferExhaustedIsRaised := by
  refine ⟨fun s w c hhost hwindow hreads => ?_, fun s t hhost hat hclean hstep => ?_⟩
  · obtain ⟨hrow, hcontext, tree, zeros, why, htree⟩ := treeContext_of_reads hreads
    refine ⟨fun hfew hfree => ⟨_, ?_, errorStop_raise _ s⟩, fun i hi hspells hcut => ⟨_, ?_, errorStop_raise _ s⟩⟩
    · have herror : noMatchError why s.genuine = .bufferExhausted := if_pos (genuine_lt_iff.mpr hfew)
      rw [step_of_not_spelled hhost hrow hcontext hwindow htree hfree, herror]
    · rw [step_of_spells hhost hrow hcontext hwindow htree hi hspells, exec_exhausted hreads hi hcut]
  · obtain ⟨hbusy, hdir, hfstate⟩ := hat
    obtain hkept | ⟨e, he, rfl⟩ := step_keepsErrOrStops hhost hbusy hdir hstep
    · rw [hkept, hclean]; decide
    · rw [State.raise_err]
      rintro rfl
      rw [hfstate] at he
      exact absurd he (by decide)

/-! ### Steps of an encode call -/

theorem emitAll_err {s t : State} {is : List Instr} (hemit : s.emitAll is = some t) : t.err = s.err := by
  rw [State.emitAll_eq_some hemit]

theorem emit_err {s t : State} {i : Instr} (hemit : s.emit i = some t) : t.err = s.err := by
  obtain ⟨m, -, rfl⟩ := State.emit_eq_some.mp hemit
  rfl

/-- What is done to the outcome of an emission keeps `ERR` when the emission and the update do. -/
theorem err_of_map {s t : State} {o : Option State} {f : State → State} (hresult : o.map f = some t)
    (hemission : ∀ u, o = some u → u.err = s.err) (hupdate : ∀ u, (f u).err = u.err) : t.err = s.err := by
  obtain ⟨u, hemit, rfl⟩ := Option.map_eq_some_iff.mp hresult
  exact (hupdate u).trans (hemission u hemit)

theorem encodeRunStep_err {s t : State} (hrun : s.encodeRunStep = some t) : t.err = s.err :=
  err_of_map hrun (fun _ => emitAll_err) fun _ => rfl

theorem encodeRuns_err {n : Nat} {s t : State} (hruns : State.encodeRuns n s = some t) : t.err = s.err := by
  induction n generalizing s with
  | zero => cases hruns; rfl
  | succ n ih =>
    rw [State.encodeRuns] at hruns
    split at hruns
    case isTrue =>
      split at hruns
      · cases hruns
      case h_2 u hrun => exact (ih hruns).trans (encodeRunStep_err hrun)
    case isFalse => cases hruns; rfl

theorem encodeModeStep_err {s t : State} (hmode : s.encodeModeStep = some t) : t.err = s.err := by
  unfold State.encodeModeStep at hmode
  split at hmode
  · exact err_of_map hmode (fun _ => emit_err) fun _ => rfl
  · exact err_of_map hmode (fun _ => emitAll_err) fun _ => rfl
  · split at hmode
    · cases hmode
    case h_2 u hcode =>
      split at hmode
      · cases hmode
      case h_2 v hfirst =>
        have hsecond : t.err = v.err := err_of_map hmode (fun _ => emitAll_err) fun _ => rfl
        exact hsecond.trans ((emitAll_err hfirst).trans (emit_err hcode))

theorem encodeModes_err {n : Nat} {s t : State} (hmodes : State.encodeModes n s = some t) : t.err = s.err := by
  induction n generalizing s with
  | zero => cases hmodes; rfl
  | succ n ih =>
    rw [State.encodeModes] at hmodes
    split at hmodes
    case isTrue =>
      split at hmodes
      · cases hmodes
      case h_2 u hmode => exact (ih hmodes).trans (encodeModeStep_err hmode)
    case isFalse => cases hmodes; rfl

theorem emitPrefix_err {s t : State} (hemit : s.emitPrefix = some t) : t.err = s.err := by
  unfold State.emitPrefix at hemit
  split at hemit
  · exact emitAll_err hemit
  · cases hemit; rfl

theorem emitTerminator_err {s t : State} (hemit : s.emitTerminator = some t) : t.err = s.err :=
  emitAll_err ((emitTerminator_eq s).symm.trans hemit)

/-- The encode direction raises no error (R541). -/
theorem encodeEngineStep_err {s t : State} (hstep : s.encodeEngineStep = .next t) : t.err = s.err := by
  obtain ⟨-, hload⟩ | ⟨-, hcode⟩ | ⟨-, hclose⟩ := State.encodeEngineStep_next hstep
  · obtain ⟨-, u, hemit, rfl⟩ | ⟨-, _, _, u, -, -, hemit, rfl⟩ := State.encodeAwaitingSync_next hload
    · exact (emitTerminator_err hemit :)
    · exact (emitPrefix_err hemit :)
  · obtain ⟨-, ⟨-, u, hrow, rfl⟩ | ⟨-, -, u, hrow, rfl⟩⟩ := State.encodeDecodingRow_next hcode
    · exact (encodeRuns_err hrow :)
    · exact (encodeModes_err hrow :)
  · obtain ⟨-, rfl⟩ := State.encodeRowComplete_next hclose
    exact State.closeRow_err s

/-- Settles O29: a step of an encode call keeps `ERR`, and one of a decode call keeps it or is the error stop. -/
theorem everyErrorIsAnErrorStop : Obligations.EveryErrorIsAnErrorStop := by
  intro s t hhost hbusy hclean hstep herror
  have hchanged : t.err ≠ s.err := hclean ▸ herror
  cases hdir : s.dirl with
  | decode =>
    obtain hkept | ⟨e, -, rfl⟩ := step_keepsErrOrStops hhost hbusy hdir hstep
    · exact absurd hkept hchanged
    · exact ⟨rfl, errorStop_raise e s⟩
  | encode =>
    exact absurd (encodeEngineStep_err ((step_encoding hhost hbusy hdir).symm.trans hstep)) hchanged

end Sys2Proof.Proofs
end

section
/-! Decode and encode agree (30_encoding.md R92, R102; 44_decoding_tree.md R367; 45_bitstream_primitives.md R386): in the
tree contexts by what the trees answer, in the sync contexts by the comparison of a whole codeword. -/

namespace Sys2Proof.Proofs

open Sys2Proof.Machine

/-! ### Markers -/

/-- A codeword matches where all its bits are genuine and begin the window. -/
theorem matches_encode_iff {i : Instr} {w : Word} {avail : Nat} :
    (encode i).matches w avail = true ↔ (encode i).length ≤ avail ∧ Spec.Spells (encode i) w := by
  rw [Code.matches, Bool.and_eq_true, decide_eq_true_iff, spelledBy_iff_spells (wf_encode i)]

/-- The tag bit tells the two tagged markers apart. -/
theorem not_matches_eol0_of_eol1 {w : Word} {avail : Nat} (hmatch : (encode .eol1).matches w avail = true) :
    ¬ (encode .eol0).matches w avail = true := by
  intro hother
  obtain ⟨-, hspells⟩ := matches_encode_iff.mp hmatch
  obtain ⟨-, hspells'⟩ := matches_encode_iff.mp hother
  have htag : (encode .eol0).codeword.getLsbD (15 - 12) = (encode .eol1).codeword.getLsbD (15 - 12) :=
    (hspells' 12 (by decide)).symm.trans (hspells 12 (by decide))
  exact absurd htag (by decide)

/-- The answer where one marker is looked for. -/
theorem ite_noMarker_eq_instr_iff {u i : Instr} {found : Bool} :
    (if found then Decoded.instr u else .reject .noMarker) = .instr i ↔ i = u ∧ found = true := by
  cases found with
  | false => simp
  | true => simp [eq_comm]

/-- In a sync context the decoder answers exactly the markers of the context that match. -/
theorem decode_sync_iff {set : SyncSet} {i : Instr} {w : Word} {avail : Nat} :
    decode (.sync set) w avail = .instr i ↔
      i ∈ (Context.sync set).codewords ∧ (encode i).matches w avail = true := by
  cases set with
  | eol | eol1 =>
    rw [Context.codewords, List.mem_singleton]
    refine ite_noMarker_eq_instr_iff.trans (and_congr_right ?_)
    rintro rfl
    rfl
  | eol0OrEol1 =>
    simp only [decode, Context.codewords, List.mem_cons, List.not_mem_nil, or_false]
    split
    case isTrue hmatch =>
      refine ⟨?_, ?_⟩
      · rintro ⟨⟩
        exact ⟨.inl rfl, hmatch⟩
      · rintro ⟨rfl | rfl, hmatch'⟩
        · rfl
        · exact absurd hmatch (not_matches_eol0_of_eol1 hmatch')
    case isFalse hno =>
      rw [ite_noMarker_eq_instr_iff]
      refine ⟨?_, ?_⟩
      · rintro ⟨rfl, hmatch⟩
        exact ⟨.inr rfl, hmatch⟩
      · rintro ⟨rfl | rfl, hmatch'⟩
        · exact absurd hmatch' hno
        · exact ⟨rfl, hmatch'⟩

/-! ### Every context -/

/-- The contexts of R92: one with a tree, or one of markers. -/
theorem context_cases (c : Context) : (∃ t zeros why, TreeContext c t zeros why) ∨ ∃ set, c = .sync set := by
  cases c with
  | white => exact .inl ⟨_, _, _, .white⟩
  | black => exact .inl ⟨_, _, _, .black⟩
  | ctrl2d => exact .inl ⟨_, _, _, .ctrl2d⟩
  | sync set => exact .inr ⟨set, rfl⟩

/-- A tree context answers what `lookup` finds. -/
theorem lookup_of_decode {c : Context} {t : Tree} {zeros : Nat} {why : Reject} {i : Instr} {w : Word} {avail : Nat}
    (htree : TreeContext c t zeros why) (hdecode : decode c w avail = .instr i) : lookup t w 0 = some i := by
  rw [decode_treeContext htree] at hdecode
  cases hlookup : lookup t w 0 with
  | none => rw [hlookup] at hdecode; cases hdecode
  | some j => rw [hlookup] at hdecode; cases hdecode; rfl

/-- Settles O1: the leaf of a tree, or the marker that matches. -/
theorem decodeReadsBackEveryCodeword : Obligations.DecodeReadsBackEveryCodeword := by
  intro c i w avail hi hspells hgenuine
  obtain ⟨_, _, _, htree⟩ | ⟨set, rfl⟩ := context_cases c
  · exact decode_of_spells htree hi hspells avail
  · exact decode_sync_iff.mpr ⟨hi, matches_encode_iff.mpr ⟨hgenuine, hspells⟩⟩

/-- Settles O2: what the tree sorts and the window spells, or the marker that matched. -/
theorem decodedCodewordsAreSpelled : Obligations.DecodedCodewordsAreSpelled := by
  intro c i w avail hdecode
  obtain ⟨_, _, _, htree⟩ | ⟨set, rfl⟩ := context_cases c
  · obtain ⟨hi, hspells⟩ := spells_of_lookup (sorts_treeContext htree) (lookup_of_decode htree hdecode)
    refine ⟨hi, hspells, ?_⟩
    rintro ⟨set, rfl⟩
    cases htree
  · obtain ⟨hi, hmatch⟩ := decode_sync_iff.mp hdecode
    obtain ⟨hgenuine, hspells⟩ := matches_encode_iff.mp hmatch
    exact ⟨hi, hspells, fun _ => hgenuine⟩

/-! ### Invalid windows -/

/-- A window begins with `n` zero bits exactly when it is a number below `2 ^ (16 - n)`. -/
theorem leading_zeros_iff {n : Nat} (hn : n ≤ 16) (w : Word) :
    (∀ j, j < n → w.getLsbD (15 - j) = false) ↔ w.toNat < 2 ^ (16 - n) := by
  refine ⟨fun hzeros => Nat.lt_pow_two_of_testBit _ fun i hi => ?_, fun hlt j hj => ?_⟩
  · rcases Nat.lt_or_ge i 16 with hlt | hge
    · have hbit := hzeros (15 - i) (by omega)
      rwa [show 15 - (15 - i) = i by omega] at hbit
    · exact BitVec.getLsbD_of_ge w i hge
  · exact Nat.testBit_lt_two_pow (hlt.trans_le (Nat.pow_le_pow_right (by decide) (by omega)))

/-- The decoder rejects the windows below the one that its context's zero bits leave, and answers every other. -/
theorem decode_by_value {c : Context} {t : Tree} {zeros : Nat} {why : Reject} (htree : TreeContext c t zeros why)
    (w : Word) (avail : Nat) :
    (w.toNat < 2 ^ (16 - zeros) → decode c w avail = .reject why) ∧
    (2 ^ (16 - zeros) ≤ w.toNat → ∃ i, i ∈ c.codewords ∧ decode c w avail = .instr i) := by
  have hzeros : zeros ≤ 16 := by cases htree <;> decide
  rw [← not_lt, ← leading_zeros_iff hzeros, ← not_spelled_iff_zeros htree]
  refine ⟨fun hfree => decode_of_not_spelled htree hfree avail, fun hspelled => ?_⟩
  push Not at hspelled
  obtain ⟨i, hi, hspells⟩ := hspelled
  exact ⟨i, hi, decode_of_spells htree hi hspells avail⟩

/-- Settles O3: `2 ^ (16 - 8)` and `2 ^ (16 - 6)`. -/
theorem invalidWindowsAreTheZeroPrefixes : Obligations.InvalidWindowsAreTheZeroPrefixes := by
  refine ⟨fun c w avail hc => ?_, fun w avail => decode_by_value .ctrl2d w avail⟩
  obtain rfl | rfl := hc
  · exact decode_by_value .white w avail
  · exact decode_by_value .black w avail

/-- Settles O8: each word begins with its codeword's bits, except the last, whose 13th bit is not genuine. -/
theorem wordsDecodeAsWritten : Obligations.WordsDecodeAsWritten := by
  refine ⟨?_, ?_, ?_, ?_, ?_, ?_, ?_, ?_, ?_, ?_, ?_, ?_, by decide⟩ <;>
    exact decodeReadsBackEveryCodeword _ _ _ _ (by decide) (by decide) (by decide)

/-! ### Codewords in the stream -/

/-- Where a codeword's bits stand, the window that is fetched decodes to it, whatever stands behind them. -/
theorem exists_fetch_of_bits {c : Context} {i : Instr} {m : Memory} {n p : Nat} (hi : i ∈ c.codewords)
    (hwritten : Spec.Written m n) (hinside : p + (encode i).length ≤ 8 * n)
    (hbits : ∀ j, j < (encode i).length → Spec.bit m (p + j) = (Spec.bitsOf i)[j]?) :
    ∃ f, fetchNextCode m n p = some f ∧ decode c f.window f.avail = .instr i := by
  obtain ⟨w, hfetch, hwindow⟩ := fetchReadsTheStream m n p hwritten
  obtain ⟨-, hmax, -⟩ := wf_code_iff.mp (wf_encode i)
  refine ⟨_, hfetch, decodeReadsBackEveryCodeword c i w _ hi (fun j hj => ?_) (le_min (by omega) (by omega))⟩
  have hgenuine := hwindow j (by omega)
  rw [if_pos (by omega), hbits j hj, Spec.bitsOf, List.getElem?_map, List.getElem?_range hj] at hgenuine
  exact (Option.some.inj hgenuine).symm

/-- Settles O12: what was appended is what is fetched. -/
theorem emittedCodewordsAreReadBack : Obligations.EmittedCodewordsAreReadBack := by
  intro c i m m' m'' p n hi hclean hadd hwritten hinside hkept
  obtain ⟨happends, -⟩ := addCodeAppendsItsBits
  obtain ⟨m₁, hadd₁, hbits, -⟩ := happends m p i hclean
  obtain rfl : m₁ = m' := Option.some.inj (hadd₁.symm.trans hadd)
  refine exists_fetch_of_bits hi hwritten hinside fun j hj => ?_
  rw [hkept (p + j) (by omega) (by omega), hbits j (by rwa [length_bitsOf])]

end Sys2Proof.Proofs
end

section
/-! The order of insertion (70_reset_and_hazards.md R581): a tree sorts a list of codewords bit by bit, so whether it
does depends only on which codewords they are, and what it sorts builds it. -/

namespace Sys2Proof.Proofs

/-- A tree that sorts some codewords sorts them in any order. -/
theorem sorts_of_perm {t : Tree} {j : Nat} {codes codes' : List Instr} (hperm : codes'.Perm codes)
    (hsorts : sorts t j codes) : sorts t j codes' := by
  induction t generalizing j codes codes' with
  | absent =>
    obtain rfl : codes = [] := by simpa [sorts] using hsorts
    simp [sorts, hperm.eq_nil]
  | node p l r ihl ihr =>
    cases p with
    | some i =>
      obtain ⟨rfl, hend, hl, hr⟩ := sorts_payload_iff.mp hsorts
      exact sorts_payload_iff.mpr ⟨List.perm_singleton.mp hperm, hend, hl, hr⟩
    | none =>
      obtain ⟨hne, hlt, hleft, hright⟩ := sorts_fork_iff.mp hsorts
      refine sorts_fork_iff.mpr ⟨fun hnil => hne ?_, fun i hi => hlt i (hperm.mem_iff.mp hi), ?_, ?_⟩
      · exact (hnil ▸ hperm).symm.eq_nil
      · exact ihl (hperm.filter _) hleft
      · exact ihr (hperm.filter _) hright

/-- Settles O6: each tree sorts its contents, hence every permutation of them. -/
theorem insertionOrderDoesNotMatter : Obligations.InsertionOrderDoesNotMatter := fun _ =>
  ⟨fun hperm => build_eq_of_sorts (sorts_of_perm hperm sorts_whiteTree),
    fun hperm => build_eq_of_sorts (sorts_of_perm hperm sorts_blackTree),
    fun hperm => build_eq_of_sorts (sorts_of_perm hperm sorts_ctrlTree)⟩

end Sys2Proof.Proofs
end

section
/-! The chain of a run (40_code_table.md R125, R126): the mappings of R120 are in order of run length, so a makeup code
takes the multiple of 64 and a terminal code the rest. -/

namespace Sys2Proof.Proofs

theorem runLength_terminals (c : Colour) : (terminals c).map Instr.runLength = List.range 64 := by
  cases c <;> rfl

theorem runLength_makeups (c : Colour) :
    (makeups c ++ sharedMakeups).map Instr.runLength = (List.range 40).map fun k => 64 * (k + 1) := by
  cases c <;> rfl

theorem makeups_length (c : Colour) : (makeups c).length = 27 := by
  cases c <;> rfl

/-- An entry of a mapping, by the list of its run lengths. -/
theorem exists_entry {codes : List Instr} {lengths : List Nat} (hmap : codes.map Instr.runLength = lengths) {k r : Nat}
    (hr : lengths[k]? = some r) : ∃ i, codes[k]? = some i ∧ i ∈ codes ∧ i.runLength = r := by
  rw [← hmap, List.getElem?_map, Option.map_eq_some_iff] at hr
  obtain ⟨i, hi, hlength⟩ := hr
  exact ⟨i, hi, List.mem_of_getElem? hi, hlength⟩

/-- The terminal code of a short run. -/
theorem exists_terminal (c : Colour) {r : Nat} (hr : r < 64) :
    ∃ t, codeFor c r = some t ∧ t ∈ terminals c ∧ t.runLength = r := by
  rw [codeFor, if_pos (by omega)]
  exact exists_entry (runLength_terminals c) (List.getElem?_range hr)

/-- The makeup code of a multiple of 64. -/
theorem exists_makeup (c : Colour) {k : Nat} (hpos : 1 ≤ k) (hmax : k ≤ 40) :
    ∃ m, codeFor c (64 * k) = some m ∧ m ∈ makeups c ++ sharedMakeups ∧ m.runLength = 64 * k := by
  have hcode : codeFor c (64 * k) = (makeups c ++ sharedMakeups)[k - 1]? := by
    rw [codeFor, if_neg (by omega), if_pos (by omega), List.getElem?_append, makeups_length]
    split
    · rw [if_pos (by omega)]; congr 1; omega
    · rw [if_neg (by omega)]; congr 1; omega
  rw [hcode]
  refine exists_entry (runLength_makeups c) ?_
  rw [List.getElem?_map, List.getElem?_range (by omega), Option.map_some]
  congr 2; omega

/-- The makeup code of the chain for what is left below 2560: one where 64 are left, else none. -/
theorem exists_makeupPart (c : Colour) {r : Nat} (hr : r < 2560) :
    ∃ ms, (if 64 ≤ r then (codeFor c (64 * (r / 64))).toList else []) = ms ∧
      (∀ m, m ∈ ms → m ∈ makeups c ++ sharedMakeups) ∧ (ms.map Instr.runLength).sum = 64 * (r / 64) := by
  split
  case isTrue =>
    obtain ⟨m, hcode, hm, hlength⟩ := exists_makeup c (k := r / 64) (by omega) (by omega)
    refine ⟨[m], by rw [hcode]; rfl, fun m' hm' => ?_, by simpa using hlength⟩
    rwa [List.mem_singleton.mp hm']
  case isFalse => exact ⟨[], rfl, fun _ hm => absurd hm List.not_mem_nil, by simp; omega⟩

/-- The codewords of 2560 in the chain. -/
theorem sum_runLength_replicate (n : Nat) : ((List.replicate n Instr.xm2560).map Instr.runLength).sum = 2560 * n := by
  simp [show Instr.xm2560.runLength = 2560 from rfl, Nat.mul_comm]

/-- Settles O7: the three parts of R125 sum to `2560 q + 64 k + rest`. -/
theorem runCodesSumToTheRun : Obligations.RunCodesSumToTheRun := by
  intro c r
  obtain ⟨ms, hms, hmem, hsum⟩ := exists_makeupPart c (r := r % 2560) (Nat.mod_lt _ (by decide))
  obtain ⟨t, ht, hterminal, hlength⟩ := exists_terminal c (r := r % 2560 % 64) (Nat.mod_lt _ (by decide))
  refine ⟨List.replicate (r / 2560) .xm2560 ++ ms, t, ?_, fun m hm => ?_, hterminal, ?_⟩
  · rw [runCodes, hms, ht, Option.toList_some]
  · rcases List.mem_append.mp hm with hbig | hmakeup
    · rw [List.eq_of_mem_replicate hbig]
      exact List.mem_append_right _ (by decide)
    · exact hmem m hmakeup
  · rw [runCodes, hms, ht]
    simp only [List.map_append, List.sum_append, sum_runLength_replicate, hsum, Option.toList_some, List.map_cons,
      List.map_nil, List.sum_singleton, hlength]
    omega

end Sys2Proof.Proofs
end

section
/-! Runs and pairs in a decode call (30_encoding.md R97; 46_row_coder_1d.md R402 to R405; 47_row_coder_2d.md R431): a chain
of makeup codes and a terminal code acts as one terminal code of the whole run, in a 1D row and in either half of a
horizontal pair. -/

namespace Sys2Proof.Proofs

open Sys2Proof.Machine

/-! ### Drawing -/

/-- Settles O16: before `start` the old cells, then the painted ones, behind them the old cells again. -/
theorem fillPaintsItsCells : Obligations.FillPaintsItsCells := by
  intro l start stop c hle hstart q
  rw [Line.fill, max_eq_right hle, List.append_assoc]
  rcases Nat.lt_or_ge q start with hbefore | hfrom
  · rw [List.getElem?_append_left (by rw [List.length_take]; omega), List.getElem?_take_of_lt hbefore,
      if_neg (by omega)]
  · rw [List.getElem?_append_right (by rw [List.length_take]; omega), List.length_take_of_le hstart]
    rcases Nat.lt_or_ge q stop with hpainted | hbehind
    · rw [List.getElem?_append_left (by rw [List.length_replicate]; omega), List.getElem?_replicate,
        if_pos (by omega), if_pos ⟨hfrom, hpainted⟩]
    · rw [List.getElem?_append_right (by rw [List.length_replicate]; omega), List.length_replicate,
        List.getElem?_drop, if_neg (by omega)]
      congr 1; omega

/-! ### The codewords of a chain -/

/-- A makeup code of the mappings is a row of the makeup tables. -/
theorem makeupRow_of_mem {c : Colour} {i : Instr} (hi : i ∈ makeups c ++ sharedMakeups) :
    (i, i.runLength, (encode i).length) ∈ Spec.makeupRows c := by
  have hrows : ∀ i, i ∈ makeups c ++ sharedMakeups → (i, i.runLength, (encode i).length) ∈ Spec.makeupRows c := by
    cases c with
    | white => decide
    | black => decide
  exact hrows i hi

/-- A terminal code of the mappings is a row of the terminal tables. -/
theorem terminalRow_of_mem {c : Colour} {i : Instr} (hi : i ∈ terminals c) :
    (i, i.runLength, (encode i).length) ∈ Spec.terminalRows c := by
  have hrows : ∀ i, i ∈ terminals c → (i, i.runLength, (encode i).length) ∈ Spec.terminalRows c := by
    cases c with
    | white => decide
    | black => decide
  exact hrows i hi

theorem bitCount_cons (i : Instr) (is : List Instr) :
    Spec.bitCount (i :: is) = (encode i).length + Spec.bitCount is := rfl

theorem bitCount_append (is js : List Instr) :
    Spec.bitCount (is ++ js) = Spec.bitCount is + Spec.bitCount js := by
  rw [Spec.bitCount, List.map_append, List.sum_append, Spec.bitCount, Spec.bitCount]

/-- Fewer bits are genuine where more are. -/
theorem genuine_mono {s : State} {n n' : Nat} (hgenuine : Spec.Genuine s n) (hle : n' ≤ n) : Spec.Genuine s n' := by
  unfold Spec.Genuine at hgenuine ⊢
  omega

/-- What is genuine behind the codewords that were read. -/
theorem genuine_advanced {s t : State} {n n' : Nat} (hgenuine : Spec.Genuine s (n + n'))
    (hcursor : t.bitpos = s.bitpos + n) (hend : t.codeLen = s.codeLen) : Spec.Genuine t n' := by
  unfold Spec.Genuine at hgenuine ⊢
  rw [hcursor, hend]
  omega

/-! ### Executing codewords -/

theorem execAll_cons {i : Instr} {is : List Instr} {s t : State} (hexec : exec i s = .next t) :
    Spec.execAll (i :: is) s = Spec.execAll is t := by
  rw [Spec.execAll, hexec]

theorem execAll_append {is : List Instr} (js : List Instr) {s t : State} (hexec : Spec.execAll is s = .next t) :
    Spec.execAll (is ++ js) s = Spec.execAll js t := by
  induction is generalizing s with
  | nil => cases hexec; rfl
  | cons i is ih =>
    rw [Spec.execAll] at hexec
    split at hexec
    case h_1 u hfirst => rw [List.cons_append, execAll_cons hfirst, ih hexec]
    case h_2 => cases hexec
    case h_3 => cases hexec

/-- The makeup codes of a chain move the cursor and grow the pending run. -/
theorem execAll_makeups {c : Colour} {ms : List Instr} {s : State} (hmem : ∀ m, m ∈ ms → m ∈ makeups c ++ sharedMakeups)
    (hreads : Spec.ReadsRun c s) (hgenuine : Spec.Genuine s (Spec.bitCount ms))
    (hrange : ((s.col + (s.runacc + (ms.map Instr.runLength).sum) : Nat) : Int) ≤ s.cfgColumns) :
    Spec.execAll ms s =
      .next ((s.advance (Spec.bitCount ms)).makeupAction (ms.map Instr.runLength).sum) := by
  induction ms generalizing s with
  | nil => rfl
  | cons m ms ih =>
    obtain ⟨hm, hms⟩ := List.forall_mem_cons.mp hmem
    rw [bitCount_cons] at hgenuine ⊢
    rw [List.map_cons, List.sum_cons, ← Nat.add_assoc s.runacc] at hrange
    have hexec : exec m s = .next ((s.advance (encode m).length).makeupAction m.runLength) :=
      makeupCodeExtendsTheRun c m _ _ s (makeupRow_of_mem hm) hreads (genuine_mono hgenuine (Nat.le_add_right _ _))
        (by omega)
    rw [execAll_cons hexec,
      ih (s := (s.advance _).makeupAction _) hms hreads (genuine_advanced hgenuine rfl rfl) hrange]
    simp only [State.advance, State.makeupAction, List.map_cons, List.sum_cons, Nat.add_assoc]

/-- R97: a chain acts as one terminal code whose run is the whole chain's, behind the chain's bits. -/
theorem execAll_chain {c : Colour} {is : List Instr} {n : Nat} {s : State} (hchain : Spec.IsRun c is n)
    (hreads : Spec.ReadsRun c s) (hgenuine : Spec.Genuine s (Spec.bitCount is))
    (hrange : ((s.col + (s.runacc + n) : Nat) : Int) ≤ s.cfgColumns) :
    Spec.execAll is s = .next ((s.advance (Spec.bitCount is)).terminalAction n) := by
  obtain ⟨ms, t, rfl, hmem, hterminal, rfl⟩ := hchain
  rw [bitCount_append] at hgenuine ⊢
  simp only [List.map_append, List.map_cons, List.map_nil, List.sum_append, List.sum_singleton] at hrange ⊢
  have hmakeups := execAll_makeups hmem hreads (genuine_mono hgenuine (Nat.le_add_right _ _))
    (by push_cast at hrange ⊢; omega)
  rw [← Nat.add_assoc s.runacc] at hrange
  have hlast := exec_terminalRow (s := (s.advance _).makeupAction _) (terminalRow_of_mem hterminal) hreads
    (genuine_advanced hgenuine rfl rfl) hrange
  rw [execAll_append _ hmakeups, execAll_cons hlast]
  simp only [Spec.execAll, State.terminalAction, State.advance, State.makeupAction, State.drawRun, Spec.bitCount,
    List.map_cons, List.map_nil, List.sum_singleton, Nat.add_assoc]

/-- Settles O17: the chain in a 1D row. -/
theorem aChainOfRunCodesIsOneRun : Obligations.AChainOfRunCodesIsOneRun := by
  rintro c is n e s hchain hreads hphase hempty hgenuine rfl hrange
  have ⟨⟨_, _, hfstate⟩, hcolor, _⟩ := hreads
  have hrun : s.col + (s.runacc + n) = s.col + n := by rw [hempty, Nat.zero_add]
  rw [execAll_chain hchain hreads hgenuine (by rw [hrun]; exact hrange),
    State.terminalAction_none (s.advance _) n hphase]
  simp [columns_le_iff_eq hrange, hcolor, hfstate, hempty]

/-! ### Horizontal pairs -/

/-- Inside a pair a run code is read whatever the row. -/
theorem readsRun_of_pair {s : State} (hrow : Spec.InRow s) (hpair : s.hphase ≠ .none) : Spec.ReadsRun s.color s :=
  ⟨hrow, rfl, fun hphase => absurd hphase hpair⟩

/-- Settles O14: the terminal action in the two phases of a pair. -/
theorem terminalCodeEndsARunOfAPair : Obligations.TerminalCodeEndsARunOfAPair := by
  rintro c i r n e s hrow hinrow rfl hgenuine rfl hrange
  have ⟨_, _, hfstate⟩ := hinrow
  refine ⟨fun hphase => ?_, fun hphase => ?_⟩
  · have hreads := readsRun_of_pair hinrow (by rw [hphase]; decide)
    rw [exec_terminalRow hrow hreads hgenuine hrange, State.terminalAction_first (s.advance n) r hphase]
    rfl
  · have hreads := readsRun_of_pair hinrow (by rw [hphase]; decide)
    rw [exec_terminalRow hrow hreads hgenuine hrange, State.terminalAction_second (s.advance n) r hphase]
    simp [columns_le_iff_eq hrange, hfstate]

theorem exec_horizontal (s : State) : exec .h s = s.controlCode .h fun t => t.horizontalAction 3 := exec_run .h s

/-- Settles O19: the horizontal action behind the checks. -/
theorem horizontalCodeBeginsAPair : Obligations.HorizontalCodeBeginsAPair := by
  intro s hreads hgenuine hwhole
  rw [exec_horizontal, controlCode_acts (i := .h) _ hreads hgenuine hwhole]
  rfl

end Sys2Proof.Proofs
end

section
/-! A horizontal pair as a whole (47_row_coder_2d.md R431, R439): `H` and two chains, decoded and encoded. -/

namespace Sys2Proof.Proofs

open Sys2Proof.Machine

/-- The state between the two runs of a pair, behind `n` bits, the first run drawn up to `x`. -/
def betweenRuns (s : State) (n x : Nat) : State :=
  { s with
    bitpos := s.bitpos + n, runacc := 0, cur := s.cur.fill s.col x s.color, col := x, color := s.color.opp
    hphase := .second }

/-- The state behind a pair of `n` bits whose runs end at `x` and at `y`. -/
def behindPair (s : State) (n x y : Nat) : State :=
  { s with
    bitpos := s.bitpos + n, runacc := 0, cur := (s.cur.fill s.col x s.color).fill x y s.color.opp, a0 := (y : Nat)
    col := y, fstate := if (y : Int) = s.cfgColumns then .rowComplete else .decodingRow }

@[simp] theorem opp_opp (c : Colour) : c.opp.opp = c := by cases c <;> rfl

/-- `H` and the first run of a pair. -/
theorem execAll_firstRun {s : State} {is : List Instr} {n : Nat} (hreads : Spec.ReadsControl s)
    (hwhole : Spec.WholeReference s) (hchain : Spec.IsRun s.color is n)
    (hgenuine : Spec.Genuine s (3 + Spec.bitCount is)) (hrange : ((s.col + n : Nat) : Int) ≤ s.cfgColumns) :
    Spec.execAll (.h :: is) s = .next (betweenRuns s (3 + Spec.bitCount is) (s.col + n)) := by
  have ⟨hrow, _⟩ := hreads
  have hbegin : exec .h s = .next (s.horizontalAction 3) :=
    horizontalCodeBeginsAPair s hreads (genuine_mono hgenuine (Nat.le_add_right _ _)) hwhole
  have hfirst : Spec.ReadsRun s.color (s.horizontalAction 3) :=
    readsRun_of_pair (s := s.horizontalAction 3) hrow (by decide : HPhase.first ≠ .none)
  rw [execAll_cons hbegin, execAll_chain hchain hfirst (genuine_advanced hgenuine rfl rfl)
    (by simpa using hrange), State.terminalAction_first _ _ rfl]
  simp [betweenRuns, Nat.add_assoc]

/-- The second run of a pair. -/
theorem execAll_secondRun {s : State} {js : List Instr} {n x m : Nat} (hreads : Spec.ReadsControl s)
    (hchain : Spec.IsRun s.color.opp js m) (hgenuine : Spec.Genuine s (n + Spec.bitCount js))
    (hrange : ((x + m : Nat) : Int) ≤ s.cfgColumns) :
    Spec.execAll js (betweenRuns s n x) = .next (behindPair s (n + Spec.bitCount js) x (x + m)) := by
  have ⟨hrow, hphase, _⟩ := hreads
  have ⟨_, _, hfstate⟩ := hrow
  have hsecond : Spec.ReadsRun s.color.opp (betweenRuns s n x) :=
    readsRun_of_pair (s := betweenRuns s n x) hrow (by decide : HPhase.second ≠ .none)
  rw [execAll_chain hchain hsecond (genuine_advanced hgenuine rfl rfl) (by simpa [betweenRuns] using hrange),
    State.terminalAction_second _ _ rfl]
  have hend : (betweenRuns s n x).columns ≤ x + m ↔ ((x + m : Nat) : Int) = s.cfgColumns := columns_le_iff_eq hrange
  have hcolumn : x + ((betweenRuns s n x).runacc + m) = x + m := congrArg (x + ·) (Nat.zero_add m)
  simp only [State.advance_columns, State.advance_col, State.advance_runacc, State.advance_cur, State.advance_color,
    State.advance_fstate, hend, show (betweenRuns s n x).col = x from rfl, hcolumn]
  simp [betweenRuns, behindPair, State.advance, hphase, hfstate, Nat.add_assoc]

/-- A pair draws its two runs. -/
theorem execAll_pair {s : State} {is js : List Instr} {n m : Nat} (hreads : Spec.ReadsControl s)
    (hwhole : Spec.WholeReference s) (hfirst : Spec.IsRun s.color is n) (hsecond : Spec.IsRun s.color.opp js m)
    (hgenuine : Spec.Genuine s (3 + Spec.bitCount is + Spec.bitCount js))
    (hrange : ((s.col + n + m : Nat) : Int) ≤ s.cfgColumns) :
    Spec.execAll (.h :: (is ++ js)) s =
      .next (behindPair s (3 + Spec.bitCount is + Spec.bitCount js) (s.col + n) (s.col + n + m)) := by
  have hhead := execAll_firstRun hreads hwhole hfirst (genuine_mono hgenuine (Nat.le_add_right _ _)) (by omega)
  rw [← List.cons_append, execAll_append js hhead, execAll_secondRun hreads hsecond hgenuine hrange]

/-! ### Emission of a pair -/

/-- The codewords of a pair at the coder's positions (R439). -/
def pairCodes (s : State) : List Instr :=
  .h :: (runCodes s.color (s.a1 - s.a0.toNat) ++ runCodes s.color.opp (s.a2 - s.a1))

/-- In horizontal mode the coding step is one emission, then the move to `a2`. -/
theorem encodeModeStep_horizontal {s : State} (hmode : selectMode s.a1 s.b1 s.b2 = .horizontal) :
    s.encodeModeStep = (s.emitAll (pairCodes s)).map fun t => { t with a0 := (s.a2 : Nat), col := s.a2 } := by
  simp only [State.encodeModeStep, hmode, pairCodes, State.emitAll_cons, State.emitRun]
  cases s.emit .h with
  | none => rfl
  | some t =>
    rw [Option.bind_some, State.emitAll_append]
    cases hfirst : t.emitAll (runCodes s.color (s.a1 - s.a0.toNat)) with
    | none => simp only [hfirst]; rfl
    | some u => simp only [hfirst]; rfl

/-- Settles O20: the two halves of the decoded pair, and the one emission of the coding step. -/
theorem aHorizontalPairDrawsTwoRuns : Obligations.AHorizontalPairDrawsTwoRuns := by
  refine ⟨?_, ?_⟩
  · rintro s is js n m x y hreads hwhole hfirst hsecond hgenuine rfl rfl hrange
    exact execAll_pair hreads hwhole hfirst hsecond hgenuine hrange
  · rintro s a1 a2 b1 b2 is hclean rfl rfl rfl rfl hmode rfl
    obtain ⟨t, hemit, hframe, happended⟩ := exists_emitAll (pairCodes s) hclean
    have hfirst : ((s.a1 : Int) - max s.a0 0).toNat = s.a1 - s.a0.toNat := by omega
    have hcodes : pairCodes s =
        .h :: (runCodes s.color ((s.a1 : Int) - max s.a0 0).toNat ++ runCodes s.color.opp (s.a2 - s.a1)) := by
      rw [hfirst, pairCodes]
    rw [hcodes] at hemit hframe happended
    refine ⟨t.code, happended, ?_⟩
    rw [encodeModeStep_horizontal hmode, hcodes, hemit, Option.map_some, hframe]
    rfl

end Sys2Proof.Proofs
end

section
/-! The bits of a 1D row (46_row_coder_1d.md R401): each turn of the loop codes the run at `COL` and ends where the next
run begins, so the chains are those of the line's runs, and only the first can be empty. -/

namespace Sys2Proof.Proofs

open Sys2Proof.Machine

/-! ### Runs of a line -/

/-- The run of colour `c` at a column: its cells, and what stands behind it. -/
theorem runLengthAt_spec {l : Line} {cols col : Nat} (hwhole : cols ≤ l.length) (hcol : col ≤ cols) (c : Colour) :
    col + runLengthAt l cols col c ≤ cols ∧
    (∀ q, col ≤ q → q < col + runLengthAt l cols col c → l.getD q .white = c) ∧
    (col + runLengthAt l cols col c < cols → l.getD (col + runLengthAt l cols col c) .white = c.opp) := by
  obtain ⟨hbefore, hline, hskipped, hfound⟩ := firstFrom_scanRun hwhole c col
  have hend : col + runLengthAt l cols col c = scanRun cols c ((l.take cols).drop col) col := by
    rw [runLengthAt]
    omega
  rw [hend]
  exact ⟨hline, fun q hq hqr => not_not.mp (hskipped q hq hqr), fun hlt => colour_ne_iff.mp (hfound hlt)⟩

/-- Where the line has the colour, the run is not empty. -/
theorem runLengthAt_pos {l : Line} {cols col : Nat} {c : Colour} (hwhole : cols ≤ l.length) (hlt : col < cols)
    (hcolour : l.getD col .white = c) : 1 ≤ runLengthAt l cols col c := by
  obtain ⟨-, -, hfound⟩ := runLengthAt_spec hwhole hlt.le c
  rcases Nat.eq_zero_or_pos (runLengthAt l cols col c) with hzero | hpos
  · rw [hzero, Nat.add_zero, hcolour] at hfound
    exact absurd rfl (colour_ne_iff.mpr (hfound hlt))
  · exact hpos

/-- Cells of one colour can be split off the rest of a line. -/
theorem drop_take_eq_replicate_append {l : Line} {cols col r : Nat} {c : Colour} (hwhole : cols ≤ l.length)
    (hend : col + r ≤ cols) (hcells : ∀ q, col ≤ q → q < col + r → l.getD q .white = c) :
    (l.take cols).drop col = List.replicate r c ++ (l.take cols).drop (col + r) := by
  induction r generalizing col with
  | zero => rfl
  | succ r ih =>
    rw [drop_take_of_lt hwhole (by omega), hcells col le_rfl (by omega), List.replicate_succ, List.cons_append,
      ih (by omega) fun q hq hqr => hcells q (by omega) (by omega)]
    congr 3; omega

/-! ### One turn of the loop -/

theorem length_bitsOfAll (is : List Instr) : (Spec.bitsOfAll is).length = Spec.bitCount is := by
  rw [Spec.bitsOfAll, List.length_flatMap, Spec.bitCount]
  congr 2
  exact funext length_bitsOf

theorem bitsOfAll_append (is js : List Instr) :
    Spec.bitsOfAll (is ++ js) = Spec.bitsOfAll is ++ Spec.bitsOfAll js := List.flatMap_append

/-- The colour after `n` alternating runs, the first of colour `c`. -/
def colourAfter (c : Colour) (n : Nat) : Colour := if n % 2 = 0 then c else c.opp

theorem colourAfter_opp (c : Colour) (n : Nat) : colourAfter c.opp n = colourAfter c (n + 1) := by
  unfold colourAfter
  rcases Nat.mod_two_eq_zero_or_one n with heven | hodd
  · rw [if_pos heven, if_neg (by omega)]
  · rw [if_neg (by omega), if_pos (by omega), opp_opp]

/-- `t` is the state of the coder of a 1D row after the runs `rs` from the position of `s` to the end of the line. -/
structure CodesRuns (s : State) (rs : List Nat) (t : State) : Prop where
  line : Spec.paint s.color rs = (s.cur.take s.columns).drop s.col
  frame : t = { s with
    code := t.code, bitpos := s.bitpos + Spec.bitCount (Spec.runsCodes s.color rs), col := s.columns
    color := colourAfter s.color rs.length }
  appended : Spec.Appended s.code s.bitpos (Spec.bitsOfAll (Spec.runsCodes s.color rs)) t.code

/-- The length of the run at the coder's column. -/
def runHere (s : State) : Nat := runLengthAt s.cur s.columns s.col s.color

/-- The coder behind the run at its column, `m` being the stream with that run's chain. -/
def behindRun (s : State) (m : Memory) : State :=
  { s with
    code := m, bitpos := s.bitpos + Spec.bitCount (runCodes s.color (runHere s)), col := s.col + runHere s
    color := s.color.opp }

/-- A turn of the loop appends the chain of the run at `COL`. -/
theorem exists_encodeRunStep {s : State} (hclean : Spec.CleanTail s.code s.bitpos) :
    ∃ m, s.encodeRunStep = some (behindRun s m) ∧
      Spec.Appended s.code s.bitpos (Spec.bitsOfAll (runCodes s.color (runHere s))) m := by
  obtain ⟨t, hemit, hframe, happended⟩ := exists_emitAll (runCodes s.color (runHere s)) hclean
  refine ⟨t.code, ?_, happended⟩
  have hturn : s.encodeRunStep =
      (s.emitAll (runCodes s.color (runHere s))).map fun t =>
        { t with col := s.col + runHere s, color := s.color.opp } := rfl
  rw [hturn, hemit, Option.map_some, hframe]
  rfl

/-- One turn, then the others. -/
theorem codesRuns_cons {s t : State} {rs : List Nat} {m : Memory} (hwhole : s.columns ≤ s.cur.length)
    (hcol : s.col ≤ s.columns)
    (happended : Spec.Appended s.code s.bitpos (Spec.bitsOfAll (runCodes s.color (runHere s))) m)
    (hrest : CodesRuns (behindRun s m) rs t) : CodesRuns s (runHere s :: rs) t := by
  obtain ⟨hline, hframe, hothers⟩ := hrest
  obtain ⟨hend, hcells, -⟩ := runLengthAt_spec hwhole hcol s.color
  refine ⟨?_, ?_, ?_⟩
  · calc Spec.paint s.color (runHere s :: rs)
        = List.replicate (runHere s) s.color ++ Spec.paint s.color.opp rs := rfl
      _ = List.replicate (runHere s) s.color ++ (s.cur.take s.columns).drop (s.col + runHere s) :=
        congrArg _ hline
      _ = (s.cur.take s.columns).drop s.col := (drop_take_eq_replicate_append hwhole hend hcells).symm
  · rw [hframe, List.length_cons, ← colourAfter_opp, Spec.runsCodes, bitCount_append]
    simp [behindRun, Nat.add_assoc, State.columns]
  · rw [Spec.runsCodes, bitsOfAll_append]
    rw [behindRun, ← length_bitsOfAll] at hothers
    exact appended_append happended hothers

theorem encodeRuns_of_lt {s t : State} (hlt : s.col < s.columns) (hturn : s.encodeRunStep = some t) (n : Nat) :
    State.encodeRuns (n + 1) s = State.encodeRuns n t := by
  rw [State.encodeRuns, if_pos hlt, hturn]

theorem encodeRuns_of_le {s : State} (hle : s.columns ≤ s.col) (n : Nat) : State.encodeRuns n s = some s := by
  cases n with
  | zero => rfl
  | succ n => rw [State.encodeRuns, if_neg hle.not_gt]

/-! ### The loop -/

/-- At the end of the line no run is left. -/
theorem codesRuns_nil {s : State} (hcol : s.col = s.columns) (hclean : Spec.CleanTail s.code s.bitpos) :
    CodesRuns s [] s := by
  refine ⟨(drop_take_of_le hcol.ge).symm, ?_, appended_nil hclean⟩
  rw [← hcol]
  rfl

/-- Behind a run the coder stands where its cell, if there is one, has the colour of the next run. -/
theorem behindRun_begins {s : State} (m : Memory) (hwhole : s.columns ≤ s.cur.length) (hcol : s.col ≤ s.columns) :
    (behindRun s m).col ≤ s.columns ∧
      ((behindRun s m).col < s.columns → s.cur.getD (behindRun s m).col .white = (behindRun s m).color) := by
  obtain ⟨hend, -, hnext⟩ := runLengthAt_spec hwhole hcol s.color
  exact ⟨hend, hnext⟩

/-- Behind the run's chain the next one can be appended. -/
theorem cleanTail_behindRun {s : State} {m : Memory}
    (happended : Spec.Appended s.code s.bitpos (Spec.bitsOfAll (runCodes s.color (runHere s))) m) :
    Spec.CleanTail (behindRun s m).code (behindRun s m).bitpos := by
  have hclean := cleanTail_of_appended happended
  rwa [length_bitsOfAll] at hclean

/-- From a column where a run of the coder's colour begins, the loop codes nonempty runs up to the end of the line. -/
theorem exists_encodeRuns {n : Nat} {s : State} (hwhole : s.columns ≤ s.cur.length) (hcol : s.col ≤ s.columns)
    (hbegins : s.col < s.columns → s.cur.getD s.col .white = s.color) (hclean : Spec.CleanTail s.code s.bitpos)
    (hturns : s.columns ≤ s.col + n) :
    ∃ t rs, State.encodeRuns n s = some t ∧ (∀ x, x ∈ rs → 1 ≤ x) ∧ CodesRuns s rs t := by
  induction n generalizing s with
  | zero =>
    exact ⟨s, [], rfl, fun _ hx => absurd hx List.not_mem_nil, codesRuns_nil (hcol.antisymm hturns) hclean⟩
  | succ n ih =>
    rcases hcol.eq_or_lt with hdone | hlt
    · exact ⟨s, [], encodeRuns_of_le hdone.ge _, fun _ hx => absurd hx List.not_mem_nil, codesRuns_nil hdone hclean⟩
    · obtain ⟨m, hturn, happended⟩ := exists_encodeRunStep hclean
      have hpos : 1 ≤ runHere s := runLengthAt_pos hwhole hlt (hbegins hlt)
      have hmoved : (behindRun s m).col = s.col + runHere s := rfl
      obtain ⟨hcol', hbegins'⟩ := behindRun_begins m hwhole hcol
      obtain ⟨t, rs, hloop, hrs, hcodes⟩ := ih (s := behindRun s m) hwhole hcol' hbegins'
        (cleanTail_behindRun happended) (by rw [hmoved]; change s.columns ≤ _; omega)
      exact ⟨t, runHere s :: rs, (encodeRuns_of_lt hlt hturn n).trans hloop, List.forall_mem_cons.mpr ⟨hpos, hrs⟩,
        codesRuns_cons hwhole hcol happended hcodes⟩

/-- The coder of a 1D row before its first run. -/
def rowStart1D (s : State) : State := { s with color := .white, col := 0 }

/-- R401: the whole row. Its first turn is made whatever the first cell is, so the first run may be empty. -/
theorem exists_encodeRow1D {s : State} (hline : 1 ≤ s.columns) (hwhole : s.columns ≤ s.cur.length)
    (hclean : Spec.CleanTail s.code s.bitpos) :
    ∃ t r rs, s.encodeRow1D = some t ∧ (∀ x, x ∈ rs → 1 ≤ x) ∧ CodesRuns (rowStart1D s) (r :: rs) t := by
  obtain ⟨m, hturn, happended⟩ := exists_encodeRunStep (s := rowStart1D s) hclean
  obtain ⟨hcol, hbegins⟩ := behindRun_begins (s := rowStart1D s) m hwhole (Nat.zero_le _)
  obtain ⟨t, rs, hloop, hrs, hcodes⟩ := exists_encodeRuns (n := s.columns) (s := behindRun (rowStart1D s) m) hwhole
    hcol hbegins (cleanTail_behindRun happended) (Nat.le_add_left _ _)
  exact ⟨t, _, rs, (encodeRuns_of_lt (s := rowStart1D s) hline hturn _).trans hloop, hrs,
    codesRuns_cons (s := rowStart1D s) hwhole (Nat.zero_le _) happended hcodes⟩

/-! ### The step -/

theorem encodeEngineStep_decodingRow {s : State} (hfstate : s.fstate = .decodingRow) :
    s.encodeEngineStep = s.encodeDecodingRow := by
  rw [State.encodeEngineStep, hfstate]

/-- R486 for a 1D row. -/
theorem encodeDecodingRow_oneD {s t : State} (hrow : Spec.RowIs1D s.cfgK s.rowidx) (hwhole : s.columns ≤ s.cur.length)
    (hcoded : s.encodeRow1D = some t) (hunbounded : t.params.codeBytes = none) :
    s.encodeDecodingRow = .next { t with fstate := .rowComplete } := by
  have hkind : s.rowKind = .oneD := rowKind_eq_oneD_iff.mpr hrow
  rw [State.encodeDecodingRow, if_neg hwhole.not_gt, hkind, hcoded]
  exact emitted_of_unbounded hunbounded

/-- Settles O38: the row's runs, and the frame step that codes them. -/
theorem a1DRowIsCodedRunByRun : Obligations.A1DRowIsCodedRunByRun := by
  intro s w hline hcolumns hwhole hclean
  obtain rfl : s.columns = w := columns_eq hcolumns
  obtain ⟨t, r, rs, hcoded, hrs, hpaint, hframe, happended⟩ := exists_encodeRow1D hline hwhole hclean
  refine ⟨t, r, rs, hcoded, hpaint, hrs, ?_, happended, ?_, fun hhost hencoding hrow hunbounded => ?_⟩
  · rw [hframe]
    rfl
  · rw [hframe]
    rfl
  · obtain ⟨hbusy, hdir, hfstate⟩ := hencoding
    rw [step_encoding hhost hbusy hdir, encodeEngineStep_decodingRow hfstate]
    exact encodeDecodingRow_oneD hrow hwhole hcoded (by rw [hframe]; exact hunbounded)

end Sys2Proof.Proofs
end

section
/-! The sync codes (48_frame_sync_controller.md R470 to R472, R480) and the start of a row (46_row_coder_1d.md R403,
47_row_coder_2d.md R440): everything a step at a row boundary can do. -/

namespace Sys2Proof.Proofs

open Sys2Proof.Machine

/-! ### The start of a row -/

theorem beginRow_eq_rowAt (s : State) : s.beginRow = Spec.rowAt s s.bitpos := by
  unfold Spec.rowAt
  split
  case isTrue hone => rw [State.beginRow_oneD s (rowKind_eq_oneD_iff.mpr hone)]
  case isFalse htwo =>
    have hkind : s.rowKind = .twoD := by
      cases hkind : s.rowKind with
      | oneD => exact absurd (rowKind_eq_oneD_iff.mp hkind) htwo
      | twoD => rfl
    rw [State.beginRow_twoD s hkind]

theorem rowPrefix_eq_rowAt (s : State) (u : Instr) : s.rowPrefix u = Spec.rowAt s (s.bitpos + (encode u).length) :=
  beginRow_eq_rowAt (s.advance (encode u).length)

theorem noPrefix_of_free {s : State} (hfree : s.cfgFlags.getLsbD 0 = false) : s.noPrefix = Spec.rowAt s s.bitpos := by
  have hmissing : ¬ (0 ≤ s.cfgK ∧ s.endOfLine = true) := fun h => by
    rw [State.endOfLine, hfree] at h
    exact absurd h.2 (by decide)
  rw [State.noPrefix, if_neg hmissing, beginRow_eq_rowAt]

@[simp] theorem rowAt_bitpos (s : State) (p : Nat) : (Spec.rowAt s p).bitpos = p := by
  unfold Spec.rowAt
  split <;> rfl

/-! ### Counted markers -/

/-- A count that is not 0 counts the copy at the position and those behind it. -/
theorem countMarks_behind {m : Memory} {n q max j : Nat} {k : Code}
    (hcount : countMarks m n k (max + 1) q = some (j + 1)) : countMarks m n k max (q + k.length) = some j := by
  rw [countMarks] at hcount
  split at hcount
  · cases hcount
  · cases hcount
  · obtain ⟨j', hbehind, hsucc⟩ := Option.map_eq_some_iff.mp hcount
    rwa [Nat.succ_injective hsucc] at hbehind

/-- A terminator's unit, by the count of its copies from the cursor on. -/
theorem marker_of_marks {s : State} {u : Instr} (lone : State) {n : Nat}
    (hcount : countMarks s.code s.codeBytes (encode u) (termCount s.cfgK) s.bitpos = some (n + 1)) :
    s.marker u lone = .next (afterMarks s u lone (n + 1)) := by
  obtain ⟨max, hmax⟩ := Nat.exists_eq_add_one.mpr (termCount_pos s.cfgK)
  rw [hmax] at hcount
  refine marker_of_count ?_
  rw [hmax, Nat.add_sub_cancel]
  exact countMarks_behind hcount

/-- One copy in a G3 call. -/
theorem marker_one {s : State} {u : Instr} (lone : State) (hg3 : 0 ≤ s.cfgK)
    (hcount : countMarks s.code s.codeBytes (encode u) 6 s.bitpos = some 1) : s.marker u lone = .next lone := by
  have hsix : termCount s.cfgK = 6 := if_neg hg3.not_gt
  rw [marker_of_marks lone (hsix ▸ hcount), afterMarks_g3 hg3]
  rfl

/-- The full terminator of a G3 call. -/
theorem marker_six {s : State} {u : Instr} (lone : State) (hg3 : 0 ≤ s.cfgK)
    (hcount : countMarks s.code s.codeBytes (encode u) 6 s.bitpos = some 6) :
    s.marker u lone = .next (Spec.finishAt s (s.bitpos + 6 * (encode u).length)) := by
  have hsix : termCount s.cfgK = 6 := if_neg hg3.not_gt
  rw [marker_of_marks (n := 5) lone (by rw [hsix, hcount]), afterMarks_g3 hg3]
  rfl

/-- The full terminator of a G4 call. -/
theorem marker_two {s : State} {u : Instr} (lone : State) (hg4 : s.cfgK < 0)
    (hcount : countMarks s.code s.codeBytes (encode u) 2 s.bitpos = some 2) :
    s.marker u lone = .next (Spec.finishAt s (s.bitpos + 2 * (encode u).length)) := by
  have htwo : termCount s.cfgK = 2 := if_pos hg4
  rw [marker_of_marks (n := 1) lone (by rw [htwo, hcount]), afterMarks_g4 hg4 _ _ le_rfl]
  rfl

/-- `EOL1` at a row boundary of a `K > 0` call is a terminator's unit, whatever row is due. -/
theorem exec_eol1 {s : State} (hat : Spec.AtBoundary s) (hpos : 0 < s.cfgK) :
    ∃ lone, exec .eol1 s = s.marker .eol1 lone := by
  by_cases hrow : Spec.RowIs1D s.cfgK s.rowidx
  · exact ⟨_, exec_eol1_oneD (context_boundary hat (syncSet_of_oneD hpos hrow))⟩
  · exact ⟨_, exec_eol1_twoD (context_boundary hat (syncSet_of_twoD hpos hrow))⟩

/-- Settles O31: `EOL` and `EOL1` by their counts, `EOL0` alone. -/
theorem syncCodesAtARowBoundary : Obligations.SyncCodesAtARowBoundary := by
  intro s hat
  have heol : ¬ 0 < s.cfgK → exec .eol s = s.marker .eol (s.rowPrefix .eol) := fun hpos =>
    exec_eol (context_boundary hat (syncSet_of_nonpos hpos s.rowidx))
  refine ⟨fun hcount hk => ?_, fun hcount hk => ?_, fun hcount hk => ?_, fun hpos hrow => ?_,
    fun hcount hpos hrow => ?_,
    fun hcount hpos => ?_, fun hcount hpos hrow hfree => ?_⟩
  · rw [heol hk.le.not_gt, marker_one _ hk.ge hcount, rowPrefix_eq_rowAt]
    rfl
  · rw [heol hk.le.not_gt, marker_six _ hk.ge hcount]
    rfl
  · rw [heol hk.le.not_gt, marker_two _ hk hcount]
    rfl
  · rw [exec_eol0 (context_boundary hat (syncSet_of_twoD hpos hrow)), rowPrefix_eq_rowAt]
    rfl
  · rw [exec_eol1_oneD (context_boundary hat (syncSet_of_oneD hpos hrow)), marker_one _ hpos.le hcount,
      rowPrefix_eq_rowAt]
    rfl
  · obtain ⟨lone, hexec⟩ := exec_eol1 hat hpos
    rw [hexec, marker_six _ hpos.le hcount]
    rfl
  · rw [exec_eol1_twoD (context_boundary hat (syncSet_of_twoD hpos hrow)), marker_one _ hpos.le hcount,
      noPrefix_of_free hfree]

/-! ### Everything a step at a row boundary can do -/

/-- The outcomes of R480: the call ends, a row begins, or an error stops it; the cursor does not move back, and no row
begins behind the stream. -/
inductive BoundaryMove (s : State) : State → Prop
  | finish {p : Nat} (hforward : s.bitpos ≤ p) : BoundaryMove s (Spec.finishAt s p)
  | begin {p : Nat} (hforward : s.bitpos ≤ p) (hinside : p ≤ 8 * s.codeBytes) : BoundaryMove s (Spec.rowAt s p)
  | error {e : ErrKind} (he : e ∈ errorsIn .awaitingSync) : BoundaryMove s (s.raise e s.bitpos)

theorem boundaryMove_noPrefix {s : State} (hmore : s.bitpos < 8 * s.codeBytes) : BoundaryMove s s.noPrefix := by
  unfold State.noPrefix
  split
  · exact .error (by decide)
  · rw [beginRow_eq_rowAt]
    exact .begin le_rfl hmore.le

/-- A row's prefix of genuine bits. -/
theorem boundaryMove_rowPrefix {s : State} {u : Instr} (hgenuine : (encode u).length ≤ s.genuine) :
    BoundaryMove s (s.rowPrefix u) := by
  have hinside : Spec.Genuine s (encode u).length := length_le_genuine_iff.mp hgenuine
  rw [rowPrefix_eq_rowAt]
  refine .begin (Nat.le_add_right _ _) ?_
  unfold State.codeBytes
  unfold Spec.Genuine at hinside
  omega

theorem boundaryMove_marker {s t o : State} {u : Instr} (hother : BoundaryMove s o) (hmarker : s.marker u o = .next t) :
    BoundaryMove s t := by
  obtain ⟨-, hanswer⟩ | ⟨k, -, ⟨-, hanswer⟩ | ⟨-, -, hanswer⟩ | ⟨-, -, hanswer⟩⟩ := s.marker_cases u o
  · cases hanswer.symm.trans hmarker
  · cases hanswer.symm.trans hmarker
    exact .finish (Nat.le_add_right _ _)
  · cases hanswer.symm.trans hmarker
    exact .error (corruptTerminator_mem _)
  · cases hanswer.symm.trans hmarker
    exact hother

/-- A marker that is wholly genuine. -/
theorem boundaryMove_exec {s t : State} {set : SyncSet} {i : Instr} (hi : i ∈ (Context.sync set).codewords)
    (hmore : s.bitpos < 8 * s.codeBytes) (hgenuine : (encode i).length ≤ s.genuine) (hexec : exec i s = .next t) :
    BoundaryMove s t := by
  have hmarker : i = .eol ∨ i = .eol0 ∨ i = .eol1 := by
    cases set <;> simp [Context.codewords] at hi <;> tauto
  obtain rfl | rfl | rfl := hmarker
  · obtain ⟨-, hmarker⟩ := State.inContext_next ((exec_run .eol s).symm.trans hexec)
    exact boundaryMove_marker (boundaryMove_rowPrefix hgenuine) hmarker
  · obtain ⟨-, hnext⟩ := State.inContext_next ((exec_run .eol0 s).symm.trans hexec)
    cases hnext
    exact boundaryMove_rowPrefix hgenuine
  · have hexec1 : execEOL1 s = .next t := (exec_run .eol1 s).symm.trans hexec
    unfold execEOL1 at hexec1
    split at hexec1
    · exact boundaryMove_marker (boundaryMove_noPrefix hmore) hexec1
    · obtain ⟨-, hmarker⟩ := State.inContext_next hexec1
      exact boundaryMove_marker (boundaryMove_rowPrefix hgenuine) hmarker

/-- A fetch at a row boundary. -/
theorem boundaryMove_decodeStep {s t : State} {set : SyncSet} (hmore : s.bitpos < 8 * s.codeBytes)
    (hstep : s.decodeStep (.sync set) = .next t) : BoundaryMove s t := by
  obtain ⟨-, hanswer⟩ | ⟨f, hfetch, ⟨i, hdecode, hanswer⟩ | ⟨-, hanswer⟩ | ⟨why, hwhy, hdecode, -⟩⟩ :=
    s.decodeStep_cases (.sync set)
  · cases hanswer.symm.trans hstep
  · obtain ⟨hi, -, hgenuine⟩ := decodedCodewordsAreSpelled _ i f.window f.avail hdecode
    obtain ⟨w, -, rfl⟩ := Option.map_eq_some_iff.mp hfetch
    exact boundaryMove_exec hi hmore (hgenuine ⟨set, rfl⟩) (hanswer.symm.trans hstep)
  · cases hanswer.symm.trans hstep
    exact boundaryMove_noPrefix hmore
  · exact absurd ((noMarker_iff_sync hdecode).mpr ⟨set, rfl⟩) hwhy

/-- Everything the engine can do at a row boundary. -/
theorem boundaryMove_of_engineStep {s t : State} (hfstate : s.fstate = .awaitingSync)
    (hstep : s.decodeEngineStep = .next t) : BoundaryMove s t := by
  obtain ⟨-, -, rfl⟩ | ⟨-, hmore, hfetch⟩ | ⟨hother, -⟩ | ⟨hother, -⟩ := State.decodeEngineStep_next hstep
  · exact .finish le_rfl
  · exact boundaryMove_decodeStep hmore hfetch
  · rw [hfstate] at hother; cases hother
  · rw [hfstate] at hother; cases hother

/-- Settles O33: of the outcomes only the start of a row is inside a row. -/
theorem aRowBeginsInWhite : Obligations.ARowBeginsInWhite := by
  rintro s t hhost ⟨hbusy, hdir, hfstate⟩ hstep hinside
  obtain _ | _ | _ := boundaryMove_of_engineStep hfstate ((step_decoding hhost hbusy hdir).symm.trans hstep)
  case finish => cases hinside
  case begin => rw [rowAt_bitpos]
  case error => cases hinside

end Sys2Proof.Proofs
end

section
/-! Everything a step inside a row can do (46_row_coder_1d.md R402 to R405; 47_row_coder_2d.md R430, R431, R441), and
decoding as the codewords' meanings one after another (30_encoding.md R92). -/

namespace Sys2Proof.Proofs

open Sys2Proof.Machine

/-! ### Codewords and their contexts -/

theorem mem_codewords_of_terminal {i : Instr} {c : Colour} {r : Nat} (hoperand : i.operand = .terminal c r) :
    i ∈ (Context.ofColour c).codewords := by
  cases i <;> cases hoperand <;> decide

theorem mem_codewords_of_makeup {i : Instr} {c : Colour} {r : Nat} (hoperand : i.operand = .makeup c r) :
    i ∈ (Context.ofColour c).codewords := by
  cases i <;> cases hoperand <;> decide

theorem mem_codewords_of_shared {i : Instr} {r : Nat} (hoperand : i.operand = .shared r) (c : Colour) :
    i ∈ (Context.ofColour c).codewords := by
  have hi : i ∈ sharedMakeups := by cases i <;> cases hoperand <;> decide
  rw [codewords_ofColour]
  exact List.mem_append_right _ hi

theorem mem_controlCodes {i : Instr}
    (hoperand : i.operand = .pass ∨ i.operand = .horizontal ∨ ∃ d, i.operand = .vertical d) : i ∈ controlCodes := by
  obtain hoperand | hoperand | ⟨d, hoperand⟩ := hoperand <;> cases i <;> cases hoperand <;> decide

/-- Outside the run codes and the vertical codes an operand names one codeword. -/
theorem eq_of_operand_eq {i j : Instr} (hj : j ∈ [Instr.p, .h, .eol, .eol0, .eol1])
    (hoperand : i.operand = j.operand) : i = j := by
  simp only [List.mem_cons, List.not_mem_nil, or_false] at hj
  obtain rfl | rfl | rfl | rfl | rfl := hj <;> cases i <;> cases hoperand <;> rfl

/-- A codeword that is executed is one of the context of the state (log 10). -/
theorem context_of_exec {s t : State} {i : Instr} (hexec : exec i s = .next t) :
    ∃ c, s.context = some c ∧ i ∈ c.codewords := by
  rw [exec_run] at hexec
  split at hexec
  case h_1 c r hoperand =>
    exact ⟨_, (State.terminalCode_next hexec).1, mem_codewords_of_terminal hoperand⟩
  case h_2 c r hoperand =>
    exact ⟨_, (State.makeupCode_next hexec).1, mem_codewords_of_makeup hoperand⟩
  case h_3 r hoperand =>
    exact ⟨_, (State.makeupCode_next hexec).1, mem_codewords_of_shared hoperand _⟩
  case h_4 hoperand =>
    exact ⟨_, (State.controlCode_next hexec).1, mem_controlCodes (.inl hoperand)⟩
  case h_5 hoperand =>
    exact ⟨_, (State.controlCode_next hexec).1, mem_controlCodes (.inr (.inl hoperand))⟩
  case h_6 d hoperand =>
    exact ⟨_, (State.controlCode_next hexec).1, mem_controlCodes (.inr (.inr ⟨d, hoperand⟩))⟩
  case h_7 hoperand =>
    obtain rfl : i = .eol := eq_of_operand_eq (by decide) hoperand
    exact ⟨_, (State.inContext_next hexec).1, by decide⟩
  case h_8 hoperand =>
    obtain rfl : i = .eol0 := eq_of_operand_eq (by decide) hoperand
    exact ⟨_, (State.inContext_next hexec).1, by decide⟩
  case h_9 hoperand =>
    obtain rfl : i = .eol1 := eq_of_operand_eq (by decide) hoperand
    unfold execEOL1 at hexec
    split at hexec
    case isTrue hcontext => exact ⟨_, hcontext, by decide⟩
    case isFalse => exact ⟨_, (State.inContext_next hexec).1, by decide⟩

/-! ### What a codeword does inside a row -/

/-- The actions of the codewords of a row, `n` being the codeword's bits, behind the checks each one makes. -/
inductive RowAction (s : State) (n : Nat) : State → Prop
  | makeup {r : Nat} (hreads : Spec.ReadsRun s.color s) (hrange : s.col + s.runacc + r ≤ s.columns) :
    RowAction s n ((s.advance n).makeupAction r)
  | terminal {r : Nat} (hreads : Spec.ReadsRun s.color s) (hrange : s.col + s.runacc + r ≤ s.columns) :
    RowAction s n ((s.advance n).terminalAction r)
  | pass (hreads : Spec.ReadsControl s) (hwhole : s.columns ≤ s.ref.length) : RowAction s n (s.passAction n)
  | horizontal (hreads : Spec.ReadsControl s) : RowAction s n (s.horizontalAction n)
  | vertical {d : Int} (hreads : Spec.ReadsControl s) (hwhole : s.columns ≤ s.ref.length)
    (hright : s.a0 < s.b1 + d) (hinside : s.b1 + d ≤ s.columns) : RowAction s n (s.verticalAction n d)

/-- Everything a codeword of `n` bits can do inside a row: an error stop, or its action behind genuine bits. -/
def RowMove (s : State) (n : Nat) (t : State) : Prop :=
  (∃ e, e ∈ errorsIn .decodingRow ∧ t = s.raise e s.bitpos) ∨
    1 ≤ n ∧ s.bitpos + n ≤ 8 * s.codeBytes ∧ RowAction s n t

/-- A codeword has bits, and where they are genuine they are bits of the stream. -/
theorem bits_of_genuine {s : State} {i : Instr} (hgenuine : (encode i).length ≤ s.genuine) :
    1 ≤ (encode i).length ∧ s.bitpos + (encode i).length ≤ 8 * s.codeBytes := by
  obtain ⟨hpos, -, -⟩ := wf_code_iff.mp (wf_encode i)
  unfold State.genuine genuineBits at hgenuine
  omega

/-- What a run code can answer is a move of the row, if its action is one. -/
theorem rowMove_of_run {s t : State} {i : Instr} {u : State}
    (haction : s.col + s.runacc + i.runLength ≤ s.columns → RowAction s (encode i).length u)
    (hanswer : t = s.raise .bufferExhausted s.bitpos ∨ t = s.raise .runOutOfRange s.bitpos ∨
      (encode i).length ≤ s.genuine ∧ s.col + s.runacc + i.runLength ≤ s.columns ∧ t = u) :
    RowMove s (encode i).length t := by
  obtain rfl | rfl | ⟨hgenuine, hrange, rfl⟩ := hanswer
  · exact .inl ⟨_, by decide, rfl⟩
  · exact .inl ⟨_, by decide, rfl⟩
  · obtain ⟨hpos, hinside⟩ := bits_of_genuine hgenuine
    exact .inr ⟨hpos, hinside, haction hrange⟩

theorem rowMove_of_terminal {s t : State} {c : Colour} {i : Instr} (hcode : s.terminalCode c i = .next t) :
    RowMove s (encode i).length t := by
  obtain ⟨hcontext, hanswer⟩ := State.terminalCode_next hcode
  obtain ⟨hrow, rfl, hkind⟩ := context_ofColour_iff_readsRun.mp hcontext
  exact rowMove_of_run (.terminal ⟨hrow, rfl, hkind⟩) hanswer

theorem rowMove_of_makeup {s t : State} {c : Colour} {i : Instr} (hcode : s.makeupCode c i = .next t) :
    RowMove s (encode i).length t := by
  obtain ⟨hcontext, hanswer⟩ := State.makeupCode_next hcode
  obtain ⟨hrow, rfl, hkind⟩ := context_ofColour_iff_readsRun.mp hcontext
  exact rowMove_of_run (.makeup ⟨hrow, rfl, hkind⟩) hanswer

/-- What a control code can answer is a move of the row, if its action is one. -/
theorem rowMove_of_control {s t : State} {i : Instr} {act : State → State} (hcode : s.controlCode i act = .next t)
    (haction : Spec.ReadsControl s → s.columns ≤ s.ref.length →
      act s = s.raise .runOutOfRange s.bitpos ∨ RowAction s (encode i).length (act s)) :
    RowMove s (encode i).length t := by
  obtain ⟨hcontext, hanswer⟩ := State.controlCode_next hcode
  obtain rfl | ⟨hgenuine, hwhole, rfl⟩ := hanswer
  · exact .inl ⟨_, by decide, rfl⟩
  · obtain ⟨hpos, hinside⟩ := bits_of_genuine hgenuine
    obtain herror | hact := haction (context_ctrl2d_iff_readsControl.mp hcontext) hwhole
    · exact .inl ⟨_, by decide, herror⟩
    · exact .inr ⟨hpos, hinside, hact⟩

/-- The vertical action is the range error, or acts. -/
theorem rowAction_of_vertical {s : State} (n : Nat) (d : Int) (hreads : Spec.ReadsControl s)
    (hwhole : s.columns ≤ s.ref.length) :
    s.verticalAction n d = s.raise .runOutOfRange s.bitpos ∨ RowAction s n (s.verticalAction n d) := by
  by_cases hrange : (s.b1 : Int) + d ≤ s.a0 ∨ (s.columns : Int) < (s.b1 : Int) + d
  · exact .inl (by rw [State.verticalAction_eq, if_pos hrange])
  · exact .inr (.vertical hreads hwhole (by omega) (by omega))

/-- A codeword executed inside a row. -/
theorem rowMove_of_exec {s t : State} {i : Instr} (hfstate : s.fstate = .decodingRow) (hexec : exec i s = .next t) :
    RowMove s (encode i).length t := by
  have hnosync : ∀ set, s.context ≠ some (.sync set) := fun set hcontext => by
    obtain ⟨-, -, hat, -⟩ := State.context_sync.mp hcontext
    rw [hfstate] at hat
    cases hat
  obtain ⟨c, hcontext, hi⟩ := context_of_exec hexec
  rw [exec_run] at hexec
  split at hexec
  case h_1 => exact rowMove_of_terminal hexec
  case h_2 => exact rowMove_of_makeup hexec
  case h_3 => exact rowMove_of_makeup hexec
  case h_4 hoperand =>
    obtain rfl : i = .p := eq_of_operand_eq (by decide) hoperand
    exact rowMove_of_control hexec fun hreads hwhole => .inr (.pass hreads hwhole)
  case h_5 hoperand =>
    obtain rfl : i = .h := eq_of_operand_eq (by decide) hoperand
    exact rowMove_of_control hexec fun hreads _ => .inr (.horizontal hreads)
  case h_6 => exact rowMove_of_control hexec (rowAction_of_vertical _ _)
  case h_7 => exact absurd (State.inContext_next hexec).1 (hnosync _)
  case h_8 => exact absurd (State.inContext_next hexec).1 (hnosync _)
  case h_9 =>
    rw [execEOL1, if_neg (hnosync _)] at hexec
    exact absurd (State.inContext_next hexec).1 (hnosync _)

/-- What a codeword's action leaves: it moves the cursor behind the codeword, and of the rest touches only the coder's
position, the coding line and, where the row is complete, the frame state. -/
theorem rowAction_frame {s t : State} {n : Nat} (hfstate : s.fstate = .decodingRow) (haction : RowAction s n t) :
    t = { s with
      bitpos := s.bitpos + n, color := t.color, a0 := t.a0, col := t.col, runacc := t.runacc, cur := t.cur
      hphase := t.hphase, fstate := t.fstate } ∧ (t.fstate = .decodingRow ∨ t.fstate = .rowComplete) := by
  have hend : ∀ done : Prop, ∀ [Decidable done],
      (if done then FState.rowComplete else s.fstate) = .decodingRow ∨
      (if done then FState.rowComplete else s.fstate) = .rowComplete := fun done _ => by
    split
    · exact .inr rfl
    · exact .inl hfstate
  cases haction with
  | makeup => exact ⟨rfl, .inl hfstate⟩
  | terminal =>
    cases hphase : s.hphase with
    | none => rw [State.terminalAction_none (s.advance n) _ hphase]; exact ⟨rfl, hend _⟩
    | first => rw [State.terminalAction_first (s.advance n) _ hphase]; exact ⟨rfl, .inl hfstate⟩
    | second => rw [State.terminalAction_second (s.advance n) _ hphase]; exact ⟨rfl, hend _⟩
  | pass => rw [State.passAction_eq]; exact ⟨rfl, hend _⟩
  | horizontal => exact ⟨rfl, .inl hfstate⟩
  | vertical hreads hwhole hright hinside =>
    rw [State.verticalAction_eq, if_neg (by omega)]
    exact ⟨rfl, hend _⟩

/-! ### Decoding a stream of codewords -/

/-- Settles O47: the fetch in the context of the state. -/
theorem aStepRunsTheDecodedCodeword : Obligations.AStepRunsTheDecodedCodeword := by
  intro s c f i hhost hcontext hmore hfetch hdecode
  have ⟨hbusy, hdir⟩ : s.busy = true ∧ s.dirl = .decode := by
    unfold State.context at hcontext
    split at hcontext
    case h_1 hbusy hdir _ => exact ⟨hbusy, hdir⟩
    case h_2 hbusy hdir _ => exact ⟨hbusy, hdir⟩
    case h_3 => cases hcontext
  rw [step_decoding hhost hbusy hdir, State.decodeEngineStep_of_context hcontext hmore,
    decodeStep_of_instr hfetch hdecode]

/-- Bits of the stream at a position. -/
def HoldsBits (m : Memory) (p : Nat) (bits : List Bool) : Prop :=
  ∀ j, j < bits.length → Spec.bit m (p + j) = bits[j]?

theorem holdsBits_append {m : Memory} {p : Nat} {bs cs : List Bool} :
    HoldsBits m p (bs ++ cs) ↔ HoldsBits m p bs ∧ HoldsBits m (p + bs.length) cs := by
  refine ⟨fun hbits => ⟨fun j hj => ?_, fun j hj => ?_⟩, fun ⟨hfirst, hsecond⟩ j hj => ?_⟩
  · rw [hbits j (by rw [List.length_append]; omega), List.getElem?_append_left hj]
  · rw [Nat.add_assoc, hbits _ (by rw [List.length_append]; omega), List.getElem?_append_right (Nat.le_add_right _ _),
      Nat.add_sub_cancel_left]
  · rw [List.length_append] at hj
    rcases Nat.lt_or_ge j bs.length with hlt | hge
    · rw [hfirst j hlt, List.getElem?_append_left hlt]
    · rw [List.getElem?_append_right hge, ← hsecond _ (by omega)]
      congr 1; omega

/-- Inside a row a codeword that can be executed and whose bits stand at the cursor is the one the step runs. -/
theorem step_of_bits {s t : State} {i : Instr} (hhost : s.host = []) (hfstate : s.fstate = .decodingRow)
    (hwritten : Spec.Written s.code s.codeBytes) (hinside : s.bitpos + (encode i).length ≤ 8 * s.codeBytes)
    (hbits : HoldsBits s.code s.bitpos (Spec.bitsOf i)) (hexec : exec i s = .next t) : step s = .next t := by
  obtain ⟨c, hcontext, hi⟩ := context_of_exec hexec
  obtain ⟨f, hfetch, hdecode⟩ := exists_fetch_of_bits hi hwritten hinside fun j hj =>
    hbits j (by rwa [length_bitsOf])
  have hrow : s.fstate = .awaitingSync → s.bitpos < 8 * s.codeBytes := fun hat => by rw [hfstate] at hat; cases hat
  rw [aStepRunsTheDecodedCodeword s c f i hhost hcontext hrow hfetch hdecode, hexec]

/-- Where a codeword of a row is followed by another that can be executed, it acts and the row goes on. -/
theorem rowAction_of_exec_exec {s t u : State} {i j : Instr} (hfstate : s.fstate = .decodingRow)
    (hfirst : exec i s = .next t) (hsecond : exec j t = .next u) :
    RowAction s (encode i).length t ∧ t.fstate = .decodingRow := by
  obtain ⟨c, hcontext, -⟩ := context_of_exec hsecond
  obtain ⟨e, -, rfl⟩ | ⟨-, -, haction⟩ := rowMove_of_exec hfstate hfirst
  · rw [State.context, State.raise_busy] at hcontext
    cases hcontext
  · obtain ⟨-, hinside | hdone⟩ := rowAction_frame hfstate haction
    · exact ⟨haction, hinside⟩
    · rw [State.context, hdone] at hcontext
      split at hcontext <;> simp_all

/-- Inside a row, decoding a stream that holds codewords' bits is executing them one after another. -/
theorem run_of_execAll {is : List Instr} {s e : State} (hhost : s.host = []) (hfstate : s.fstate = .decodingRow)
    (hwritten : Spec.Written s.code s.codeBytes) (hinside : s.bitpos + Spec.bitCount is ≤ 8 * s.codeBytes)
    (hbits : HoldsBits s.code s.bitpos (Spec.bitsOfAll is)) (hexec : Spec.execAll is s = .next e) :
    run is.length s = .next e := by
  induction is generalizing s with
  | nil => exact hexec
  | cons i is ih =>
    obtain ⟨hhead, htail⟩ := holdsBits_append.mp (show HoldsBits _ _ (Spec.bitsOf i ++ Spec.bitsOfAll is) from hbits)
    rw [bitCount_cons] at hinside
    rw [Spec.execAll] at hexec
    split at hexec
    case h_2 => cases hexec
    case h_3 => cases hexec
    case h_1 t hfirst =>
      rw [List.length_cons, run, step_of_bits hhost hfstate hwritten (by omega) hhead hfirst]
      cases is with
      | nil => exact hexec
      | cons j js =>
        obtain ⟨u, hsecond⟩ : ∃ u, exec j t = .next u := by
          rw [Spec.execAll] at hexec
          split at hexec
          case h_1 u hsecond => exact ⟨u, hsecond⟩
          case h_2 => cases hexec
          case h_3 => cases hexec
        obtain ⟨haction, hgoes⟩ := rowAction_of_exec_exec hfstate hfirst hsecond
        obtain ⟨hframe, -⟩ := rowAction_frame hfstate haction
        have hcode : t.code = s.code := by rw [hframe]
        have hbytes : t.codeBytes = s.codeBytes := by rw [hframe]; rfl
        have hcursor : t.bitpos = s.bitpos + (encode i).length := by rw [hframe]
        refine ih (by rw [hframe]; exact hhost) hgoes (by rwa [hcode, hbytes]) (by rw [hcursor, hbytes]; omega) ?_ hexec
        rw [hcode, hcursor, ← length_bitsOf]
        exact htail

end Sys2Proof.Proofs
end

section
/-! A 1D row decodes to the line it codes (46_row_coder_1d.md R403; 49_host_commands.md R528 for one row): the chains of
the line's runs, executed one after another, paint the line, and the stream makes the decoder execute them. -/

namespace Sys2Proof.Proofs

open Sys2Proof.Machine

/-! ### Painted lines -/

theorem length_paint (c : Colour) (rs : List Nat) : (Spec.paint c rs).length = rs.sum := by
  induction rs generalizing c with
  | nil => rfl
  | cons r rs ih => rw [Spec.paint, List.length_append, List.length_replicate, ih, List.sum_cons]

/-- A line drawn up to `start` is, after a fill, drawn up to `stop`. -/
theorem take_fill {l : Line} {start stop : Nat} (c : Colour) (hle : start ≤ stop) (hstart : start ≤ l.length) :
    (l.fill start stop c).take stop = l.take start ++ List.replicate (stop - start) c := by
  have hlength : (l.take start ++ List.replicate (stop - start) c).length = stop := by
    rw [List.length_append, List.length_take_of_le hstart, List.length_replicate]
    omega
  exact List.take_left' hlength

/-- A fill writes every cell below its end. -/
theorem le_length_fill {l : Line} {start stop : Nat} (c : Colour) (hle : start ≤ stop) (hstart : start ≤ l.length) :
    stop ≤ (l.fill start stop c).length := by
  rw [Line.fill, List.length_append, List.length_append, List.length_take_of_le hstart, List.length_replicate]
  omega

/-! ### Chains of a row -/

/-- The decoder of a 1D row at the start of a run of colour `c`. -/
structure AtRun (c : Colour) (d : State) : Prop where
  reads : Spec.ReadsRun c d
  row : d.hphase = .none
  fresh : d.runacc = 0
  drawn : d.col ≤ d.cur.length

/-- `e` is the decoder of the row of `d` when the row is complete, `n` bits behind and with the line `l`. -/
structure RowDecoded (d : State) (n : Nat) (l : Line) (e : State) : Prop where
  complete : e.fstate = .rowComplete
  cursor : e.bitpos = d.bitpos + n
  noError : e.err = d.err
  line : e.cur.take d.columns = l

/-- The decoder behind a run up to `x` of `n` bits. -/
def drawnTo (d : State) (n x : Nat) : State :=
  { d with
    bitpos := d.bitpos + n, cur := d.cur.fill d.col x d.color, col := x, color := d.color.opp
    fstate := if (x : Int) = d.cfgColumns then .rowComplete else .decodingRow }

/-- The chain of a run that stays inside the row. -/
theorem execAll_runCodes {c : Colour} {d : State} {r : Nat} (hat : AtRun c d)
    (hgenuine : Spec.Genuine d (Spec.bitCount (runCodes c r))) (hrange : d.col + r ≤ d.columns)
    (hline : 1 ≤ d.cfgColumns) :
    Spec.execAll (runCodes c r) d = .next (drawnTo d (Spec.bitCount (runCodes c r)) (d.col + r)) := by
  obtain ⟨hreads, hphase, hfresh, -⟩ := hat
  have ⟨_, hcolor, _⟩ := hreads
  have hinside : ((d.col + r : Nat) : Int) ≤ d.cfgColumns := by
    unfold State.columns at hrange
    omega
  rw [aChainOfRunCodesIsOneRun c _ r _ d (runCodesSumToTheRun c r) hreads hphase hfresh hgenuine rfl hinside,
    drawnTo, hcolor]

/-- Behind a run that does not end the row the next one begins. -/
theorem atRun_drawnTo {c : Colour} {d : State} {x : Nat} (n : Nat) (hat : AtRun c d) (hle : d.col ≤ x)
    (hlt : x < d.columns) : AtRun c.opp (drawnTo d n x) := by
  obtain ⟨⟨⟨hbusy, hdir, hfstate⟩, rfl, hkind⟩, hphase, hfresh, hdrawn⟩ := hat
  have hopen : ¬ (x : Int) = d.cfgColumns := by
    unfold State.columns at hlt
    omega
  exact ⟨⟨⟨hbusy, hdir, if_neg hopen⟩, rfl, hkind⟩, hphase, hfresh, le_length_fill _ hle hdrawn⟩

/-- The chains of runs that fill the rest of the row, of which only the first may be empty, paint them. -/
theorem execAll_runsCodes {c : Colour} {d : State} {r : Nat} {rs : List Nat} (hat : AtRun c d)
    (hline : 1 ≤ d.cfgColumns) (hrs : ∀ x, x ∈ rs → 1 ≤ x) (hsum : d.col + (r :: rs).sum = d.columns)
    (hgenuine : Spec.Genuine d (Spec.bitCount (Spec.runsCodes c (r :: rs)))) :
    ∃ e, Spec.execAll (Spec.runsCodes c (r :: rs)) d = .next e ∧
      RowDecoded d (Spec.bitCount (Spec.runsCodes c (r :: rs))) (d.cur.take d.col ++ Spec.paint c (r :: rs)) e := by
  induction rs generalizing c d r with
  | nil =>
    have hend : d.col + r = d.columns := by simpa using hsum
    have hcolumns : ((d.col + r : Nat) : Int) = d.cfgColumns := (columns_le_iff_eq (by
      rw [hend, State.columns]; omega)).mp hend.ge
    have hcodes : Spec.runsCodes c [r] = runCodes c r := List.append_nil _
    have ⟨⟨_, hcolor, _⟩, _, _, hdrawn⟩ := hat
    rw [hcodes] at hgenuine ⊢
    refine ⟨_, execAll_runCodes hat hgenuine hend.le hline, if_pos hcolumns, rfl, rfl, ?_⟩
    rw [drawnTo, ← hend, take_fill _ (Nat.le_add_right _ _) hdrawn, hcolor, Nat.add_sub_cancel_left]
    exact congrArg _ (List.append_nil _).symm
  | cons r' rs ih =>
    obtain ⟨hpos, hrs⟩ := List.forall_mem_cons.mp hrs
    rw [List.sum_cons, List.sum_cons] at hsum
    have hcodes : Spec.runsCodes c (r :: r' :: rs) = runCodes c r ++ Spec.runsCodes c.opp (r' :: rs) := rfl
    have ⟨⟨_, hcolor, _⟩, _, _, hdrawn⟩ := hat
    rw [hcodes, bitCount_append] at hgenuine
    rw [hcodes, bitCount_append]
    have hfirst := execAll_runCodes hat (genuine_mono hgenuine (Nat.le_add_right _ _)) (by omega) hline
    obtain ⟨e, hexec, hcomplete, hcursor, hnoError, hpainted⟩ := ih
      (atRun_drawnTo (Spec.bitCount (runCodes c r)) hat (Nat.le_add_right _ r) (by omega)) hline hrs
      (by rw [List.sum_cons]; change d.col + r + _ = d.columns; omega) (genuine_advanced hgenuine rfl rfl)
    refine ⟨e, (execAll_append _ hfirst).trans hexec, hcomplete, ?_, hnoError, ?_⟩
    · rw [hcursor, drawnTo, Nat.add_assoc]
    · refine hpainted.trans ?_
      rw [drawnTo, take_fill _ (Nat.le_add_right _ _) hdrawn, hcolor, Nat.add_sub_cancel_left, List.append_assoc]
      rfl

/-! ### The round trip -/

/-- A stream that agrees with the one the bits were appended to holds them. -/
theorem holdsBits_of_appended {m m' m'' : Memory} {p : Nat} {bits : List Bool} (happended : Spec.Appended m p bits m')
    (hagree : ∀ q, q < p + bits.length → p ≤ q → Spec.bit m'' q = Spec.bit m' q) : HoldsBits m'' p bits := by
  obtain ⟨hbits, -⟩ := happended
  intro j hj
  rw [hagree (p + j) (by omega) (Nat.le_add_right _ _), hbits j hj]

/-- Settles O39: the decoder executes the chains of the line's runs. -/
theorem a1DRowDecodesToItsLine : Obligations.A1DRowDecodesToItsLine := by
  intro s t d hline hwhole hclean hcoded hhost hrow hphase hkind hcolor hcol hfresh hcursor hcolumns hwritten
    hend hagree
  have hcolumns' : d.columns = s.columns := congrArg Int.toNat hcolumns
  have hwhole' : s.columns ≤ s.cur.length := Int.toNat_le.mpr hwhole
  obtain ⟨t', r, rs, hcoded', hrs, hrest, hframe, happended⟩ :=
    exists_encodeRow1D (by unfold State.columns; omega) hwhole' hclean
  have hpaint : Spec.paint .white (r :: rs) = s.cur.take s.columns := hrest
  obtain rfl : t' = t := Option.some.inj (hcoded'.symm.trans hcoded)
  have hbitpos : t'.bitpos = d.bitpos + Spec.bitCount (Spec.runsCodes .white (r :: rs)) := by
    rw [hframe, hcursor]
    rfl
  have hat : AtRun .white d := ⟨⟨hrow, hcolor, fun _ => hkind⟩, hphase, hfresh, by rw [hcol]; exact Nat.zero_le _⟩
  have hsum : (r :: rs).sum = s.columns := by
    rw [← length_paint .white, hpaint, List.length_take_of_le hwhole']
  obtain ⟨e, hexec, hcomplete, hdone, hnoError, hpainted⟩ := execAll_runsCodes hat (hcolumns ▸ hline) hrs
    (by rw [hcol, Nat.zero_add, hsum, hcolumns']) (by unfold Spec.Genuine; rw [← hbitpos]; exact hend)
  have hbits : HoldsBits d.code d.bitpos (Spec.bitsOfAll (Spec.runsCodes .white (r :: rs))) := by
    rw [hcursor]
    refine holdsBits_of_appended happended fun q hlt hle => hagree q ?_ hle
    rw [hbitpos, hcursor, ← length_bitsOfAll]
    exact hlt
  have ⟨_, _, hfstate⟩ := hrow
  refine ⟨_, e, run_of_execAll hhost hfstate hwritten ?_ hbits hexec, hcomplete, hdone.trans hbitpos.symm, hnoError, ?_⟩
  · rw [← hbitpos, State.codeBytes]
    omega
  · rw [← hcolumns', hpainted, hcol, List.take_zero, List.nil_append, hpaint, hcolumns']

end Sys2Proof.Proofs
end

section
/-! A 2D row (47_row_coder_2d.md R439, R440): the coding steps bring `A0` from -1 to `Columns`, and a decoder at the
coder's position, over the same reference line, is brought by each step's codewords to the coder's next position, its
coding line drawn up to there. -/

namespace Sys2Proof.Proofs

open Sys2Proof.Machine

/-! ### The position of the coder -/

/-- The coder of a 2D row between two coding steps: it has coded the cells left of `COL`, and `COLOR` is the colour of the
cell at `A0`. -/
structure AtMode (s : State) : Prop where
  width : 1 ≤ s.cfgColumns
  line : s.columns ≤ s.cur.length
  reference : s.columns ≤ s.ref.length
  left : -1 ≤ s.a0
  right : s.a0 ≤ s.columns
  column : s.col = s.a0.toNat
  colour : 0 ≤ s.a0 → s.a0 < s.columns → s.cur.getD s.col .white = s.color

/-- Where `a1` and `a2` stand, and the cells before them (R423, R424). -/
theorem a1_a2_spec {s : State} (hat : AtMode s) (hopen : s.a0 < s.columns) :
    s.a0 < s.a1 ∧ s.col ≤ s.a1 ∧ s.a1 ≤ s.a2 ∧ s.a2 ≤ s.columns ∧ (s.a1 < s.columns → s.a1 < s.a2) ∧
    (∀ q, s.col ≤ q → q < s.a1 → s.cur.getD q .white = s.color) ∧
    (s.a1 < s.columns → s.cur.getD s.a1 .white = s.color.opp) ∧
    (∀ q, s.a1 ≤ q → q < s.a2 → s.cur.getD q .white = s.color.opp) ∧
    (s.a2 < s.columns → s.cur.getD s.a2 .white = s.color) := by
  obtain ⟨-, hline, -, hleft, -, hcolumn, hcolour⟩ := hat
  obtain ⟨hbefore₁, hline₁, hskipped₁, hfound₁⟩ : FirstFrom _ _ _ s.a1 := firstFrom_findA1 hline s.a0 s.color
  obtain ⟨hbefore₂, hline₂, hskipped₂, hfound₂⟩ : FirstFrom _ _ _ s.a2 := firstFrom_findA1 hline s.a1 s.color.opp
  refine ⟨by omega, by omega, by omega, hline₂, by omega, fun q hq hq1 => ?_,
    fun hlt => colour_ne_iff.mp (hfound₁ hlt), fun q hq hq2 => ?_, fun hlt => ?_⟩
  · by_cases hhere : q = s.col ∧ 0 ≤ s.a0
    · rw [hhere.1]
      exact hcolour hhere.2 hopen
    · exact not_not.mp (hskipped₁ q (by omega) hq1)
  · rcases hq.eq_or_lt with rfl | hgt
    · exact colour_ne_iff.mp (hfound₁ (by omega))
    · exact not_not.mp (hskipped₂ q (by omega) hq2)
  · have hother := colour_ne_iff.mp (hfound₂ hlt)
    rwa [opp_opp] at hother

/-- Where `b1` and `b2` stand (R425, R426). -/
theorem b1_b2_spec {s : State} (hreference : s.columns ≤ s.ref.length) (hopen : s.a0 < s.columns) :
    s.a0 < s.b1 ∧ s.b1 ≤ s.b2 ∧ s.b2 ≤ s.columns := by
  obtain ⟨hbefore₁, hline₁, -⟩ : FirstFrom _ _ _ s.b1 := firstFrom_findB1 hreference s.a0 s.color
  obtain ⟨hbefore₂, hline₂, -⟩ : FirstFrom _ _ _ s.b2 := firstFrom_findB2 hreference s.b1
  omega

/-! ### One coding step -/

/-- The codewords of a coding step (R439). -/
def modeCodes (s : State) : List Instr :=
  match selectMode s.a1 s.b1 s.b2 with
  | .pass => [.p]
  | .vertical d => (verticalCode d).toList
  | .horizontal => pairCodes s

/-- The column to which a coding step moves the coder. -/
def modeTarget (s : State) : Nat :=
  match selectMode s.a1 s.b1 s.b2 with
  | .pass => s.b2
  | .vertical _ => s.a1
  | .horizontal => s.a2

/-- The colour behind a coding step. -/
def modeColour (s : State) : Colour :=
  match selectMode s.a1 s.b1 s.b2 with
  | .pass => s.color
  | .vertical _ => s.color.opp
  | .horizontal => s.color

/-- The coder behind a coding step, `m` being the stream with the step's codewords. -/
def behindMode (s : State) (m : Memory) : State :=
  { s with
    code := m, bitpos := s.bitpos + Spec.bitCount (modeCodes s), a0 := (modeTarget s : Nat), col := modeTarget s
    color := modeColour s }

/-- The three modes of R429, with what tells them apart. -/
theorem mode_cases (s : State) :
    (selectMode s.a1 s.b1 s.b2 = .pass ∧ s.b2 < s.a1) ∨
    (∃ i d n, selectMode s.a1 s.b1 s.b2 = .vertical d ∧ (i, d, n) ∈ Spec.verticalRows ∧ (s.a1 : Int) = s.b1 + d) ∨
    selectMode s.a1 s.b1 s.b2 = .horizontal := by
  obtain ⟨hpass, hvertical, -⟩ := modeSelection s.a1 s.b1 s.b2
  cases hmode : selectMode s.a1 s.b1 s.b2 with
  | pass => exact .inl ⟨rfl, hpass.mp hmode⟩
  | horizontal => exact .inr (.inr rfl)
  | vertical d =>
    obtain ⟨-, hd, hmin, hmax⟩ := (hvertical d).mp hmode
    have hrow : ∃ row, row ∈ Spec.verticalRows ∧ row.2.1 = d := by
      clear hmode hvertical hd
      interval_cases d <;> decide
    obtain ⟨⟨i, d', n⟩, hrow, hd'⟩ := hrow
    obtain rfl : d' = d := hd'
    exact .inr (.inl ⟨i, d', n, rfl, hrow, by omega⟩)

/-- A coding step appends its codewords and moves the coder. -/
theorem exists_encodeModeStep {s : State} (hclean : Spec.CleanTail s.code s.bitpos) :
    ∃ m, s.encodeModeStep = some (behindMode s m) ∧
      Spec.Appended s.code s.bitpos (Spec.bitsOfAll (modeCodes s)) m := by
  obtain ⟨t, hemit, hframe, happended⟩ := exists_emitAll (modeCodes s) hclean
  refine ⟨t.code, ?_, happended⟩
  have hone : ∀ i, s.emitAll [i] = s.emit i := fun i => (s.emitAll_cons i []).trans (Option.bind_fun_some _)
  unfold behindMode
  obtain ⟨hmode, -⟩ | ⟨i, d, n, hmode, hrow, -⟩ | hmode := mode_cases s
  · simp only [modeCodes, modeTarget, modeColour, hmode] at hemit hframe ⊢
    rw [encodeModeStep_pass hmode, ← hone, hemit, Option.map_some, hframe]
  · obtain ⟨-, -, hcode⟩ := verticalRow_spec hrow
    simp only [modeCodes, modeTarget, modeColour, hmode, hcode, Option.toList_some] at hemit hframe ⊢
    rw [encodeModeStep_vertical hmode hcode, ← hone, hemit, Option.map_some, hframe]
  · simp only [modeCodes, modeTarget, modeColour, hmode] at hemit hframe ⊢
    rw [encodeModeStep_horizontal hmode, hemit, Option.map_some, hframe]

/-- A coding step moves the coder right, to a position inside the line. -/
theorem atMode_behindMode {s : State} (m : Memory) (hat : AtMode s) (hopen : s.a0 < s.columns) :
    AtMode (behindMode s m) ∧ s.a0 < (behindMode s m).a0 := by
  obtain ⟨h01, -, h12, h2, -, hcells₁, hfound₁, -, hfound₂⟩ := a1_a2_spec hat hopen
  obtain ⟨hb1, hb12, hb2⟩ := b1_b2_spec hat.reference hopen
  suffices htarget : s.a0 < modeTarget s ∧ modeTarget s ≤ s.columns ∧
      (modeTarget s < s.columns → s.cur.getD (modeTarget s) .white = modeColour s) by
    obtain ⟨hright, hinside, hcolour⟩ := htarget
    have hcolumns : (behindMode s m).columns = s.columns := rfl
    refine ⟨⟨hat.width, hat.line, hat.reference, ?_, ?_, rfl, fun _ hlt => hcolour ?_⟩, hright⟩
    · change -1 ≤ (modeTarget s : Int)
      omega
    · exact Int.ofNat_le.mpr hinside
    · exact Int.ofNat_lt.mp hlt
  unfold modeTarget modeColour
  have hleft := hat.left
  have hcolumn := hat.column
  obtain ⟨hmode, hpass⟩ | ⟨i, d, n, hmode, hrow, -⟩ | hmode := mode_cases s
  · simp only [hmode]
    exact ⟨by omega, by omega, fun _ => hcells₁ _ (by omega) hpass⟩
  · simp only [hmode]
    exact ⟨h01, by omega, hfound₁⟩
  · simp only [hmode]
    exact ⟨by omega, h2, hfound₂⟩

/-! ### Decoding a coding step -/

/-- The decoder of a 2D row at the position of the coder. -/
structure Follows (s d : State) : Prop where
  reads : Spec.ReadsControl d
  columns : d.cfgColumns = s.cfgColumns
  reference : d.ref = s.ref
  a0 : d.a0 = s.a0
  colour : d.color = s.color
  column : d.col = s.col
  drawn : d.cur.take s.col = s.cur.take s.col

/-- The decoder `e` to which a coding step's codewords bring the decoder `d`. -/
structure DecodesMode (s d e : State) : Prop where
  frame : e = { d with
    bitpos := d.bitpos + Spec.bitCount (modeCodes s), cur := e.cur, a0 := (modeTarget s : Nat), col := modeTarget s
    color := modeColour s, runacc := e.runacc
    fstate := if (modeTarget s : Int) = d.cfgColumns then .rowComplete else .decodingRow }
  drawn : e.cur.take (modeTarget s) = s.cur.take (modeTarget s)

/-- A line drawn as another one is, and filled with the colour the other one has there. -/
theorem take_fill_eq {l l' : Line} {start stop : Nat} {c : Colour} (hle : start ≤ stop) (hline : stop ≤ l.length)
    (hdrawn : l'.take start = l.take start) (hcells : ∀ q, start ≤ q → q < stop → l.getD q .white = c) :
    start ≤ l'.length ∧ (l'.fill start stop c).take stop = l.take stop := by
  have hstart : start ≤ l'.length := by
    have hlength := congrArg List.length hdrawn
    rw [List.length_take, List.length_take] at hlength
    omega
  have hrest := drop_take_eq_replicate_append hline (col := start) (r := stop - start) (by omega)
    fun q hq hqr => hcells q hq (by omega)
  rw [Nat.add_sub_cancel' hle, drop_take_of_le le_rfl, List.append_nil] at hrest
  refine ⟨hstart, ?_⟩
  rw [take_fill c hle hstart, hdrawn, ← hrest]
  calc l.take start ++ (l.take stop).drop start
      = (l.take stop).take start ++ (l.take stop).drop start := by rw [List.take_take, min_eq_left hle]
    _ = l.take stop := List.take_append_drop _ _

section
variable {s d : State} (hat : AtMode s) (hopen : s.a0 < s.columns) (hfollows : Follows s d)
include hat hfollows

/-- Coder and decoder find the same changing elements on the reference line. -/
theorem follows_b1_b2 : d.b1 = s.b1 ∧ d.b2 = s.b2 ∧ Spec.WholeReference d := by
  obtain ⟨-, hcolumns, href, ha0, hcolour, -, -⟩ := hfollows
  have hb1 : d.b1 = s.b1 := by simp only [State.b1, State.columns, hcolumns, href, ha0, hcolour]
  refine ⟨hb1, by simp only [State.b2, State.columns, hcolumns, href, hb1], ?_⟩
  rw [Spec.WholeReference, hcolumns, href]
  exact Int.toNat_le.mp hat.reference

/-- The cells between the decoder's column and a column before `a1`. -/
theorem follows_fill {x : Nat} (hle : s.col ≤ x) (hx : x ≤ s.columns)
    (hcells : ∀ q, s.col ≤ q → q < x → s.cur.getD q .white = s.color) :
    s.col ≤ d.cur.length ∧ (d.cur.fill d.col x d.color).take x = s.cur.take x := by
  rw [hfollows.column, hfollows.colour]
  exact take_fill_eq hle (hx.trans hat.line) hfollows.drawn hcells

/-- A column inside the line, as the decoder's `CFG_COLUMNS` sees it. -/
theorem le_cfgColumns_iff {x : Nat} : (x : Int) ≤ d.cfgColumns ↔ x ≤ s.columns := by
  have hwidth := hat.width
  rw [hfollows.columns]
  unfold State.columns
  omega

include hopen

theorem decodesMode_pass (hmode : selectMode s.a1 s.b1 s.b2 = .pass) (hpass : s.b2 < s.a1)
    (hgenuine : Spec.Genuine d (Spec.bitCount (modeCodes s))) :
    ∃ e, Spec.execAll (modeCodes s) d = .next e ∧ DecodesMode s d e := by
  obtain ⟨-, -, h12, h2, -, hcells, -⟩ := a1_a2_spec hat hopen
  obtain ⟨hb1, hb12, hb2⟩ := b1_b2_spec hat.reference hopen
  obtain ⟨-, hsame, hwhole⟩ := follows_b1_b2 hat hfollows
  obtain ⟨hpassCode, -, -⟩ := passCode
  have hleft := hat.left
  have hcolumn := hat.column
  have hinside := (le_cfgColumns_iff hat hfollows).mpr hb2
  have hend : d.cfgColumns ≤ s.b2 ↔ (s.b2 : Int) = d.cfgColumns := ⟨fun h => hinside.antisymm h, fun h => h.ge⟩
  obtain ⟨-, hdrawn⟩ := follows_fill hat hfollows (x := s.b2) (by omega) hb2 fun q hq hq2 => hcells q hq (by omega)
  simp only [modeCodes, hmode] at hgenuine ⊢
  have hexec := hpassCode d hfollows.reads hgenuine hwhole
  refine ⟨_, execAll_cons hexec, ?_, ?_⟩
  · simp only [modeCodes, modeTarget, modeColour, hmode, hsame, hend, hfollows.colour]
    rfl
  · simp only [modeTarget, hmode, hsame]
    exact hdrawn

theorem decodesMode_vertical {i : Instr} {v : Int} {n : Nat} (hmode : selectMode s.a1 s.b1 s.b2 = .vertical v)
    (hrow : (i, v, n) ∈ Spec.verticalRows) (htarget : (s.a1 : Int) = s.b1 + v)
    (hgenuine : Spec.Genuine d (Spec.bitCount (modeCodes s))) :
    ∃ e, Spec.execAll (modeCodes s) d = .next e ∧ DecodesMode s d e := by
  obtain ⟨h01, hcol1, h12, h2, -, hcells, -⟩ := a1_a2_spec hat hopen
  obtain ⟨hsame, -, hwhole⟩ := follows_b1_b2 hat hfollows
  obtain ⟨-, hlength, hcode⟩ := verticalRow_spec hrow
  obtain ⟨hvertical, -⟩ := verticalCodes i v n hrow
  have hinside := (le_cfgColumns_iff hat hfollows).mpr (h12.trans h2)
  obtain ⟨-, hdrawn⟩ := follows_fill hat hfollows hcol1 (h12.trans h2) hcells
  have hcodes : modeCodes s = [i] := by simp only [modeCodes, hmode, hcode, Option.toList_some]
  have hcount : Spec.bitCount (modeCodes s) = n := by rw [hcodes, ← hlength]; rfl
  rw [hcount] at hgenuine
  have hexec := hvertical d s.a1 hfollows.reads hgenuine hwhole (by rw [hsame]; exact htarget)
    (by rw [hfollows.a0]; exact h01) hinside
  refine ⟨_, (congrArg (Spec.execAll · d) hcodes).trans (execAll_cons hexec), ?_, ?_⟩
  · rw [hcount]
    simp only [modeTarget, modeColour, hmode, hfollows.colour]
  · simp only [modeTarget, hmode]
    exact hdrawn

theorem decodesMode_horizontal (hmode : selectMode s.a1 s.b1 s.b2 = .horizontal)
    (hgenuine : Spec.Genuine d (Spec.bitCount (modeCodes s))) :
    ∃ e, Spec.execAll (modeCodes s) d = .next e ∧ DecodesMode s d e := by
  obtain ⟨-, hcol1, h12, h2, -, hcells₁, -, hcells₂, -⟩ := a1_a2_spec hat hopen
  obtain ⟨-, -, hwhole⟩ := follows_b1_b2 hat hfollows
  obtain ⟨hstart, hdrawn₁⟩ := follows_fill hat hfollows hcol1 (h12.trans h2) hcells₁
  obtain ⟨-, hdrawn₂⟩ := take_fill_eq h12 (h2.trans hat.line) hdrawn₁ hcells₂
  have hfirst : d.col + (s.a1 - s.a0.toNat) = s.a1 := by
    rw [hfollows.column, ← hat.column]
    omega
  have hsecond : s.a1 + (s.a2 - s.a1) = s.a2 := by omega
  have hcodes : modeCodes s = .h :: (runCodes d.color (s.a1 - s.a0.toNat) ++ runCodes d.color.opp (s.a2 - s.a1)) := by
    simp only [modeCodes, hmode, pairCodes, hfollows.colour]
  have hcount : Spec.bitCount (modeCodes s) = 3 + Spec.bitCount (runCodes d.color (s.a1 - s.a0.toNat)) +
      Spec.bitCount (runCodes d.color.opp (s.a2 - s.a1)) := by
    rw [hcodes, bitCount_cons, bitCount_append, ← Nat.add_assoc]
    rfl
  have hexec := execAll_pair hfollows.reads hwhole (runCodesSumToTheRun _ _) (runCodesSumToTheRun _ _)
    (hcount ▸ hgenuine) (by
      rw [hfirst, hsecond]
      exact (le_cfgColumns_iff hat hfollows).mpr h2)
  rw [hfirst, hsecond, ← hcount, ← hcodes] at hexec
  refine ⟨_, hexec, ?_, ?_⟩
  · simp only [behindPair, modeTarget, modeColour, hmode, hfollows.colour]
  · simp only [behindPair, modeTarget, hmode, ← hfollows.colour] at hdrawn₂ ⊢
    exact hdrawn₂

/-- The codewords of a coding step bring the decoder to the coder's next position. -/
theorem exists_decodesMode (hgenuine : Spec.Genuine d (Spec.bitCount (modeCodes s))) :
    ∃ e, Spec.execAll (modeCodes s) d = .next e ∧ DecodesMode s d e := by
  obtain ⟨hmode, hpass⟩ | ⟨i, v, n, hmode, hrow, htarget⟩ | hmode := mode_cases s
  · exact decodesMode_pass hat hopen hfollows hmode hpass hgenuine
  · exact decodesMode_vertical hat hopen hfollows hmode hrow htarget hgenuine
  · exact decodesMode_horizontal hat hopen hfollows hmode hgenuine

end

end Sys2Proof.Proofs
end

section
/-! A whole 2D row (47_row_coder_2d.md R439, R440): its coding steps as one trace, from which the encoder's loop, the bits
it appends and the decoded line are read off. -/

namespace Sys2Proof.Proofs

open Sys2Proof.Machine

/-- The coding steps from `s` to the end of the line at `t`, with the codewords they append. -/
inductive CodesModes : State → List Instr → State → Prop
  | done {s : State} (hat : AtMode s) (hend : s.a0 = s.columns) (hclean : Spec.CleanTail s.code s.bitpos) :
    CodesModes s [] s
  | step {s t : State} {is : List Instr} {m : Memory} (hat : AtMode s) (hopen : s.a0 < s.columns)
    (hstep : s.encodeModeStep = some (behindMode s m))
    (happended : Spec.Appended s.code s.bitpos (Spec.bitsOfAll (modeCodes s)) m)
    (hrest : CodesModes (behindMode s m) is t) : CodesModes s (modeCodes s ++ is) t

/-- Every step moves `A0` right, so the steps come to the end of the line. -/
theorem exists_codesModes {s : State} (hat : AtMode s) (hclean : Spec.CleanTail s.code s.bitpos) :
    ∃ is t, CodesModes s is t := by
  induction hleft : ((s.columns : Int) - s.a0).toNat using Nat.strong_induction_on generalizing s with
  | _ n ih =>
    rcases hat.right.eq_or_lt with hend | hopen
    · exact ⟨[], s, .done hat hend hclean⟩
    · obtain ⟨m, hstep, happended⟩ := exists_encodeModeStep hclean
      obtain ⟨hat', hright⟩ := atMode_behindMode m hat hopen
      have hcolumns : (behindMode s m).columns = s.columns := rfl
      have hclean' : Spec.CleanTail (behindMode s m).code (behindMode s m).bitpos := by
        have hbehind := cleanTail_of_appended happended
        rwa [length_bitsOfAll] at hbehind
      obtain ⟨is, t, hrest⟩ := ih _ (by rw [← hleft, hcolumns]; omega) hat' hclean' rfl
      exact ⟨_, t, .step hat hopen hstep happended hrest⟩

/-! ### The encoder -/

/-- The loop of R439, given enough turns. -/
theorem encodeModes_of_codesModes {s t : State} {is : List Instr} (hcodes : CodesModes s is t) {n : Nat}
    (hturns : (s.columns : Int) ≤ s.a0 + n) : State.encodeModes n s = some t := by
  induction hcodes generalizing n with
  | done hat hend =>
    cases n with
    | zero => rfl
    | succ n => rw [State.encodeModes, if_neg (by omega)]
  | @step s t is m hat hopen hstep happended hrest ih =>
    obtain ⟨-, hright⟩ := atMode_behindMode m hat hopen
    have hcolumns : (behindMode s m).columns = s.columns := rfl
    cases n with
    | zero => omega
    | succ n =>
      rw [State.encodeModes, if_pos hopen, hstep]
      exact ih (by rw [hcolumns]; omega)

/-- The steps one by one, none of them from the end of the line. -/
theorem codingSteps_of_codesModes {s t : State} {is : List Instr} (hcodes : CodesModes s is t) :
    ∃ n, Spec.codingSteps n s = some t ∧ ∀ k, k < n → ∃ x, Spec.codingSteps k s = some x ∧ x.a0 < s.columns := by
  induction hcodes with
  | done => exact ⟨0, rfl, fun k hk => absurd hk (Nat.not_lt_zero k)⟩
  | @step s t is m hat hopen hstep happended hrest ih =>
    obtain ⟨n, hsteps, hbefore⟩ := ih
    have hnext : ∀ k, Spec.codingSteps (k + 1) s = Spec.codingSteps k (behindMode s m) := fun k => by
      rw [Spec.codingSteps, hstep, Option.bind_some]
    refine ⟨n + 1, (hnext n).trans hsteps, fun k hk => ?_⟩
    cases k with
    | zero => exact ⟨s, rfl, hopen⟩
    | succ k =>
      obtain ⟨x, hx, hlt⟩ := hbefore k (by omega)
      exact ⟨x, (hnext k).trans hx, hlt⟩

/-- What the steps change: the stream, the cursor and the coder's position. -/
theorem codesModes_frame {s t : State} {is : List Instr} (hcodes : CodesModes s is t) :
    t = { s with
      code := t.code, bitpos := s.bitpos + Spec.bitCount is, a0 := (s.columns : Nat), col := s.columns
      color := t.color } := by
  induction hcodes with
  | @done s hat hend =>
    have hcol : s.col = s.columns := by rw [hat.column, hend]; rfl
    rw [← hend, ← hcol]
    rfl
  | @step s t is m hat hopen hstep happended hrest ih =>
    rw [ih, bitCount_append, ← Nat.add_assoc]
    rfl

/-- The steps append their codewords. -/
theorem codesModes_appended {s t : State} {is : List Instr} (hcodes : CodesModes s is t) :
    Spec.Appended s.code s.bitpos (Spec.bitsOfAll is) t.code := by
  induction hcodes with
  | done hat hend hclean => exact appended_nil hclean
  | @step s t is m hat hopen hstep happended hrest ih =>
    rw [bitsOfAll_append]
    refine appended_append happended ?_
    rw [length_bitsOfAll]
    exact ih

/-! ### The decoder -/

/-- Behind a coding step that does not end the row the decoder follows the coder. -/
theorem follows_of_decodesMode {s d e : State} (m : Memory) (hfollows : Follows s d) (hdecodes : DecodesMode s d e)
    (hopen : (modeTarget s : Int) ≠ d.cfgColumns) : Follows (behindMode s m) e := by
  obtain ⟨⟨⟨hbusy, hdir, -⟩, hphase, hkind⟩, hcolumns, href, -, -, -, -⟩ := hfollows
  obtain ⟨hframe, hdrawn⟩ := hdecodes
  rw [if_neg hopen] at hframe
  rw [hframe] at hdrawn ⊢
  exact ⟨⟨⟨hbusy, hdir, rfl⟩, hphase, hkind⟩, hcolumns, href, rfl, rfl, rfl, hdrawn⟩

/-- The codewords of a row, executed by a decoder that follows the coder, decode the coder's line. -/
theorem execAll_of_codesModes {s t d : State} {is : List Instr} (hcodes : CodesModes s is t) (hopen : s.a0 < s.columns)
    (hfollows : Follows s d) (hgenuine : Spec.Genuine d (Spec.bitCount is)) :
    ∃ e, Spec.execAll is d = .next e ∧ RowDecoded d (Spec.bitCount is) (s.cur.take s.columns) e := by
  induction hcodes generalizing d with
  | done hat hend => omega
  | @step s t is m hat _ hstep happended hrest ih =>
    rw [bitCount_append] at hgenuine ⊢
    obtain ⟨e, hexec, hdecodes⟩ := exists_decodesMode hat hopen hfollows (genuine_mono hgenuine (Nat.le_add_right _ _))
    obtain ⟨hframe, hdrawn⟩ := hdecodes
    have hcolumns : (s.columns : Int) = d.cfgColumns := by
      rw [hfollows.columns]
      exact Int.toNat_of_nonneg (by have := hat.width; omega)
    have hcolumns' : d.columns = s.columns := congrArg Int.toNat hfollows.columns
    have hbitpos : e.bitpos = d.bitpos + Spec.bitCount (modeCodes s) := by rw [hframe]
    have herr : e.err = d.err := by rw [hframe]
    have hlen : e.codeLen = d.codeLen := by rw [hframe]
    have hwidth : e.columns = d.columns := by rw [hframe]; rfl
    have hstate : e.fstate = if (modeTarget s : Int) = d.cfgColumns then .rowComplete else .decodingRow := by
      rw [hframe]
    cases hrest with
    | done hat' hend =>
      have hlast : modeTarget s = s.columns := Int.ofNat_inj.mp hend
      refine ⟨e, (execAll_append _ hexec).trans rfl, ?_, by rw [hbitpos]; rfl, herr, ?_⟩
      · rw [hstate, if_pos (by rw [hlast, hcolumns])]
      · rw [hcolumns', ← hlast, hdrawn]
    | step hat' hopen' hstep' happended' hrest' =>
      have hmore : (modeTarget s : Int) ≠ d.cfgColumns := by
        rw [← hcolumns]
        exact ne_of_lt hopen'
      obtain ⟨e', hexec', hcomplete, hcursor, hnoError, hline⟩ := ih hopen'
        (follows_of_decodesMode m hfollows ⟨hframe, hdrawn⟩ hmore) (genuine_advanced hgenuine hbitpos hlen)
      refine ⟨e', (execAll_append _ hexec).trans hexec', hcomplete, ?_, hnoError.trans herr, ?_⟩
      · rw [hcursor, hbitpos, Nat.add_assoc]
      · rw [← hwidth]
        exact hline

/-! ### The row -/

/-- The coder of a 2D row before its first step. -/
def rowStart2D (s : State) : State := { s with a0 := -1, color := .white, col := 0 }

/-- R439: the whole row. -/
theorem exists_encodeRow2D {s : State} (hwidth : 1 ≤ s.cfgColumns) (hline : s.columns ≤ s.cur.length)
    (hreference : s.columns ≤ s.ref.length) (hclean : Spec.CleanTail s.code s.bitpos) :
    ∃ is t, CodesModes (rowStart2D s) is t ∧ s.encodeRow2D = some t := by
  have hat : AtMode (rowStart2D s) :=
    ⟨hwidth, hline, hreference, le_rfl, by change (-1 : Int) ≤ s.columns; omega, rfl,
      fun h => absurd h (by decide : ¬ (0 : Int) ≤ -1)⟩
  obtain ⟨is, t, hcodes⟩ := exists_codesModes hat hclean
  refine ⟨is, t, hcodes, encodeModes_of_codesModes hcodes ?_⟩
  change (s.columns : Int) ≤ -1 + (s.columns + 1 : Nat)
  omega

/-- R486 for a 2D row. -/
theorem encodeDecodingRow_twoD {s t : State} (hrow : ¬ Spec.RowIs1D s.cfgK s.rowidx)
    (hline : s.columns ≤ s.cur.length) (hreference : s.columns ≤ s.ref.length) (hcoded : s.encodeRow2D = some t)
    (hunbounded : t.params.codeBytes = none) : s.encodeDecodingRow = .next { t with fstate := .rowComplete } := by
  have hkind : s.rowKind = .twoD := by
    cases hkind : s.rowKind with
    | oneD => exact absurd (rowKind_eq_oneD_iff.mp hkind) hrow
    | twoD => rfl
  rw [State.encodeDecodingRow, if_neg hline.not_gt, hkind, hcoded]
  exact (if_neg hreference.not_gt).trans (emitted_of_unbounded hunbounded)

/-- The encoding half of the statement. -/
theorem encode_2DRow {s : State} (hhost : s.host = []) (hencoding : Spec.Encoding .decodingRow s)
    (hrow : ¬ Spec.RowIs1D s.cfgK s.rowidx) (hunbounded : s.params.codeBytes = none) (hwidth : 1 ≤ s.cfgColumns)
    (hline : s.cfgColumns ≤ s.cur.length) (hreference : s.cfgColumns ≤ s.ref.length)
    (hclean : Spec.CleanTail s.code s.bitpos) :
    ∃ (n : Nat) (t : State), Spec.codingSteps n (rowStart2D s) = some t ∧ t.a0 = s.cfgColumns ∧
      (∀ k, k < n → ∃ x, Spec.codingSteps k (rowStart2D s) = some x ∧ x.a0 < s.cfgColumns) ∧
      s.encodeRow2D = some t ∧ step s = .next { t with fstate := .rowComplete } ∧
      t = { s with
        code := t.code, bitpos := t.bitpos, a0 := s.cfgColumns, color := t.color, col := s.cfgColumns.toNat } := by
  obtain ⟨hbusy, hdir, hfstate⟩ := hencoding
  obtain ⟨is, t, hcodes, hcoded⟩ :=
    exists_encodeRow2D hwidth (Int.toNat_le.mpr hline) (Int.toNat_le.mpr hreference) hclean
  obtain ⟨n, hsteps, hbefore⟩ := codingSteps_of_codesModes hcodes
  have hcolumns : ((rowStart2D s).columns : Int) = s.cfgColumns := Int.toNat_of_nonneg (show 0 ≤ s.cfgColumns by omega)
  have hframe := codesModes_frame hcodes
  rw [hcolumns] at hframe hbefore
  refine ⟨n, t, hsteps, by rw [hframe], hbefore, hcoded, ?_, by rw [hframe]; rfl⟩
  rw [step_encoding hhost hbusy hdir, encodeEngineStep_decodingRow hfstate]
  exact encodeDecodingRow_twoD hrow (Int.toNat_le.mpr hline) (Int.toNat_le.mpr hreference) hcoded
    (by rw [hframe]; exact hunbounded)

/-- Settles O40: the trace of the row's coding steps, encoded and decoded. -/
theorem a2DRowDecodesToItsLine : Obligations.A2DRowDecodesToItsLine := by
  refine ⟨?_, ?_⟩
  · rintro s u hhost hencoding hrow hunbounded hwidth hline hreference hclean rfl
    exact encode_2DRow hhost hencoding hrow hunbounded hwidth hline hreference hclean
  · intro s t d hwidth hline hreference hclean hcoded hhost hreads hcolor ha0 hcol hcursor hcolumns href hwritten hend
      hagree
    obtain ⟨is, t', hcodes, hcoded'⟩ :=
      exists_encodeRow2D hwidth (Int.toNat_le.mpr hline) (Int.toNat_le.mpr hreference) hclean
    obtain rfl : t' = t := Option.some.inj (hcoded'.symm.trans hcoded)
    have hbitpos : t'.bitpos = d.bitpos + Spec.bitCount is := by
      rw [codesModes_frame hcodes, hcursor]
      rfl
    have hfollows : Follows (rowStart2D s) d := ⟨hreads, hcolumns, href, ha0, hcolor, hcol, rfl⟩
    have hopen : (rowStart2D s).a0 < (rowStart2D s).columns := by
      change (-1 : Int) < s.columns
      omega
    obtain ⟨e, hexec, hcomplete, hdone, hnoError, hpainted⟩ := execAll_of_codesModes hcodes hopen hfollows
      (by unfold Spec.Genuine; rw [← hbitpos]; exact hend)
    have happended : Spec.Appended s.code s.bitpos (Spec.bitsOfAll is) t'.code :=
      codesModes_appended (s := rowStart2D s) hcodes
    have hbits : HoldsBits d.code d.bitpos (Spec.bitsOfAll is) := by
      rw [hcursor]
      refine holdsBits_of_appended happended fun q hlt hle => hagree q ?_ hle
      rw [hbitpos, hcursor, ← length_bitsOfAll]
      exact hlt
    have ⟨⟨_, _, hfstate⟩, _⟩ := hreads
    have hcolumns' : d.columns = s.columns := congrArg Int.toNat hcolumns
    refine ⟨_, e, run_of_execAll hhost hfstate hwritten ?_ hbits hexec, hcomplete, hdone.trans hbitpos.symm, hnoError,
      ?_⟩
    · rw [← hbitpos, State.codeBytes]
      omega
    · rw [← hcolumns']
      refine hpainted.trans ?_
      rw [hcolumns']
      rfl

end Sys2Proof.Proofs
end

section
/-! Frame steps of an encode call (48_frame_sync_controller.md R485 to R487): a row begins with its prefix and is loaded
from `PIX`, and whatever the coders emit, they only append. -/

namespace Sys2Proof.Proofs

open Sys2Proof.Machine

/-! ### Loading a row -/

/-- Written bytes are loaded as a row. -/
theorem readBlock_of_read {m : Memory} {a : Nat} {bs : List Byte}
    (hread : ∀ k, k < bs.length → m.read (a + k) = bs[k]?) : m.readBlock a bs.length = some bs := by
  have hwritten : (m.readBlock a bs.length).isSome := Memory.readBlock_isSome fun k hk => by
    rw [hread k hk, List.getElem?_eq_getElem hk]
    rfl
  obtain ⟨bs', hblock⟩ := Option.isSome_iff_exists.mp hwritten
  obtain ⟨hlength, hbytes⟩ := Memory.readBlock_eq_some hblock
  rw [hblock]
  refine congrArg some (List.ext_getElem? fun k => ?_)
  rcases Nat.lt_or_ge k bs.length with hlt | hge
  · rw [← hbytes k hlt, hread k hlt]
  · rw [List.getElem?_eq_none (by omega), List.getElem?_eq_none hge]

/-- R66: the sentinels of a row are its colours. -/
theorem toColours_map_sentinel (b : Bool) (row : List Colour) :
    toColours b (row.map (Spec.sentinel b)) = some row := by
  induction row with
  | nil => rfl
  | cons c row ih =>
    rw [List.map_cons, toColours, ih, ← toByte_eq_sentinel, toColour_toByte]

/-- A row of sentinels is loaded as its colours. -/
theorem rowBytes_of_read {s : State} {r : Nat} {row : List Colour} (hlength : row.length = s.columns)
    (hread : ∀ c, c < s.columns → s.pix.read (r * s.columns + c) = (row[c]?).map (Spec.sentinel s.blackIs1)) :
    s.rowBytes r = some (row.map (Spec.sentinel s.blackIs1)) := by
  have hblock := readBlock_of_read (m := s.pix) (a := r * s.columns) (bs := row.map (Spec.sentinel s.blackIs1))
    fun k hk => by
      rw [List.length_map, hlength] at hk
      rw [hread k hk, List.getElem?_map]
  rwa [List.length_map, hlength] at hblock

/-- The codewords before a row (R474, R485). -/
def rowPrefixCodes (s : State) : List Instr :=
  if s.cfgFlags.getLsbD 0 = false ∨ s.cfgK < 0 then []
  else if s.cfgK = 0 then [.eol]
  else if (s.rowidx : Int) % s.cfgK = 0 then [.eol1] else [.eol0]

/-- The model's prefix is that of R474. -/
theorem emitPrefix_eq (s : State) : s.emitPrefix = s.emitAll (rowPrefixCodes s) := by
  unfold State.emitPrefix rowPrefixCodes State.endOfLine
  by_cases hnone : s.cfgFlags.getLsbD 0 = false ∨ s.cfgK < 0
  · have hfree : ¬ (s.cfgFlags.getLsbD 0 = true ∧ 0 ≤ s.cfgK) := by
      rintro ⟨hwanted, hg3⟩
      obtain hfree | hg4 := hnone
      · rw [hfree] at hwanted
        cases hwanted
      · omega
    rw [if_pos hnone, if_neg hfree]
    rfl
  · have hg3 : 0 ≤ s.cfgK := by
      by_contra hg4
      exact hnone (.inr (by omega))
    have hwanted : s.cfgFlags.getLsbD 0 = true := by
      by_contra hfree
      exact hnone (.inl (by simpa using hfree))
    rw [if_neg hnone, if_pos ⟨hwanted, hg3⟩]
    rcases hg3.eq_or_lt with hzero | hpos
    · rw [← hzero]
      rfl
    · have hmod : s.rowidx % s.cfgK.toNat = 0 ↔ (s.rowidx : Int) % s.cfgK = 0 := by
        rw [mod_toNat_eq_zero_iff hpos]
        simp [Spec.RowIs1D, hpos, hpos.ne']
      rw [prefixCode, if_neg hpos.ne', if_pos hpos, if_neg hpos.ne']
      by_cases hone : (s.rowidx : Int) % s.cfgK = 0
      · rw [if_pos (hmod.mpr hone), if_pos hone]
        rfl
      · rw [if_neg (mt hmod.mp hone), if_neg hone]
        rfl

/-- The row branch of R485, once its prefix is emitted. -/
theorem encodeAwaitingSync_row {s t : State} {bs : List Byte} {row : List Colour} (hmore : s.rowidx ≠ s.nrows)
    (hbytes : s.rowBytes s.rowidx = some bs) (hrow : toColours s.blackIs1 bs = some row)
    (hemitted : s.emitAll (rowPrefixCodes s) = some t) (hunbounded : t.params.codeBytes = none) :
    s.encodeAwaitingSync = .next { t with cur := t.cur.overwrite row, fstate := .decodingRow } := by
  rw [State.encodeAwaitingSync, if_neg hmore, hbytes]
  simp only [hrow, emitPrefix_eq, hemitted, Option.map_some]
  exact emitted_of_unbounded hunbounded

/-- Settles O37: the prefix is appended and the row is loaded over the coding line. -/
theorem encodeRowBegins : Obligations.EncodeRowBegins := by
  rintro s w row is hhost ⟨hbusy, hdir, hfstate⟩ hmore hunbounded hclean hcolumns hlength hread hprefix
  obtain rfl : s.columns = w := columns_eq hcolumns
  obtain rfl : is = rowPrefixCodes s := hprefix
  obtain ⟨t, hemitted, hframe, happended⟩ := exists_emitAll (rowPrefixCodes s) hclean
  have hparams : t.params.codeBytes = none := by rw [hframe]; exact hunbounded
  have hstep := (step_encoding hhost hbusy hdir).trans ((encodeEngineStep_awaitingSync hfstate).trans
    (encodeAwaitingSync_row hmore (rowBytes_of_read hlength hread) (toColours_map_sentinel _ row) hemitted hparams))
  have hcur : t.cur = s.cur := by rw [hframe]
  refine ⟨_, hstep, ?_, happended, fun c => ?_⟩
  · rw [hframe]
  · rw [hcur, getElem?_overwrite, hlength]

/-! ### What the coders change -/

/-- `t` is `s` after emissions and moves of the coder: bits were appended, and of the rest only the coder's position
changed. -/
structure Coded (s t : State) : Prop where
  frame : t = { s with code := t.code, bitpos := t.bitpos, color := t.color, a0 := t.a0, col := t.col }
  forward : s.bitpos ≤ t.bitpos
  canonical : s.code.wf = true → t.code.wf = true
  clean : Spec.CleanTail s.code s.bitpos → Spec.CleanTail t.code t.bitpos

/-- A move of the coder without emission. -/
theorem coded_move (s : State) (c : Colour) (a0 : Int) (col : Nat) :
    Coded s { s with color := c, a0 := a0, col := col } :=
  ⟨rfl, le_rfl, id, id⟩

theorem Coded.refl (s : State) : Coded s s := coded_move s s.color s.a0 s.col

theorem Coded.trans {s t u : State} (hfirst : Coded s t) (hsecond : Coded t u) : Coded s u := by
  refine ⟨?_, hfirst.forward.trans hsecond.forward, fun h => hsecond.canonical (hfirst.canonical h),
    fun h => hsecond.clean (hfirst.clean h)⟩
  have hframe := hsecond.frame
  rw [hfirst.frame] at hframe
  exact hframe

theorem coded_emitAll {s t : State} {is : List Instr} (hemit : s.emitAll is = some t) : Coded s t := by
  have hframe := State.emitAll_eq_some hemit
  have hcursor : t.bitpos = s.bitpos + Spec.bitCount is := by rw [hframe]; rfl
  refine ⟨by rw [hframe], by omega, State.emitAll_wf hemit, fun hclean => ?_⟩
  obtain ⟨t', hemit', -, happended⟩ := exists_emitAll is hclean
  obtain rfl : t' = t := Option.some.inj (hemit'.symm.trans hemit)
  have hbehind := cleanTail_of_appended happended
  rwa [length_bitsOfAll, ← hcursor] at hbehind

theorem coded_emit {s t : State} {i : Instr} (hemit : s.emit i = some t) : Coded s t := by
  refine coded_emitAll (is := [i]) ?_
  rw [State.emitAll_cons, hemit]
  rfl

theorem coded_encodeRunStep {s t : State} (hrun : s.encodeRunStep = some t) : Coded s t := by
  obtain ⟨u, hemit, rfl⟩ := Option.map_eq_some_iff.mp hrun
  exact (coded_emitAll hemit).trans (coded_move u _ u.a0 _)

theorem coded_encodeRuns {n : Nat} {s t : State} (hruns : State.encodeRuns n s = some t) : Coded s t := by
  induction n generalizing s with
  | zero => cases hruns; exact .refl _
  | succ n ih =>
    rw [State.encodeRuns] at hruns
    split at hruns
    case isTrue =>
      split at hruns
      case h_1 => cases hruns
      case h_2 u hrun => exact (coded_encodeRunStep hrun).trans (ih hruns)
    case isFalse => cases hruns; exact .refl _

theorem coded_encodeModeStep {s t : State} (hmode : s.encodeModeStep = some t) : Coded s t := by
  unfold State.encodeModeStep at hmode
  split at hmode
  case h_1 =>
    obtain ⟨u, hemit, rfl⟩ := Option.map_eq_some_iff.mp hmode
    exact (coded_emit hemit).trans (coded_move u u.color _ _)
  case h_2 =>
    obtain ⟨u, hemit, rfl⟩ := Option.map_eq_some_iff.mp hmode
    exact (coded_emitAll hemit).trans (coded_move u _ _ _)
  case h_3 =>
    split at hmode
    case h_1 => cases hmode
    case h_2 u hcode =>
      split at hmode
      case h_1 => cases hmode
      case h_2 v hfirst =>
        obtain ⟨x, hsecond, rfl⟩ := Option.map_eq_some_iff.mp hmode
        exact (((coded_emit hcode).trans (coded_emitAll hfirst)).trans (coded_emitAll hsecond)).trans
          (coded_move x x.color _ _)

theorem coded_encodeModes {n : Nat} {s t : State} (hmodes : State.encodeModes n s = some t) : Coded s t := by
  induction n generalizing s with
  | zero => cases hmodes; exact .refl _
  | succ n ih =>
    rw [State.encodeModes] at hmodes
    split at hmodes
    case isTrue =>
      split at hmodes
      case h_1 => cases hmodes
      case h_2 u hmode => exact (coded_encodeModeStep hmode).trans (ih hmodes)
    case isFalse => cases hmodes; exact .refl _

/-- Either coder of a row. -/
theorem coded_encodeRow {s t : State} (hrow : s.encodeRow1D = some t ∨ s.encodeRow2D = some t) : Coded s t := by
  obtain hrow | hrow := hrow
  · exact (coded_move s _ s.a0 _).trans (coded_encodeRuns hrow)
  · exact (coded_move s _ _ _).trans (coded_encodeModes hrow)

end Sys2Proof.Proofs
end

section
/-! Everything a step can do, and what that keeps: the transitions of R479, the inputs of a call (R37, R78), the error of
an encode call (R555), the cursor (R24), the canonical form of the memories. -/

namespace Sys2Proof.Proofs

open Sys2Proof.Machine

/-! ### The engine's moves -/

/-- Everything a step of a decode call can do. -/
inductive DecodeMove (s : State) : State → Prop
  | boundary {t : State} (hfstate : s.fstate = .awaitingSync) (hmove : BoundaryMove s t) : DecodeMove s t
  | error {e : ErrKind} (hfstate : s.fstate = .decodingRow) (he : e ∈ errorsIn .decodingRow) :
    DecodeMove s (s.raise e s.bitpos)
  | row {n : Nat} {t : State} (hfstate : s.fstate = .decodingRow) (hpos : 1 ≤ n)
    (hinside : s.bitpos + n ≤ 8 * s.codeBytes) (haction : RowAction s n t) : DecodeMove s t
  | last (hfstate : s.fstate = .rowComplete) (hwhole : s.columns ≤ s.cur.length) :
    DecodeMove s (s.storeRow s.rowidx).closeRow.finish
  | next (hfstate : s.fstate = .rowComplete) (hwhole : s.columns ≤ s.cur.length) :
    DecodeMove s { (s.storeRow s.rowidx).closeRow with fstate := .awaitingSync }

/-- Everything a step of an encode call can do. -/
inductive EncodeMove (s : State) : State → Prop
  | finish {t : State} (hfstate : s.fstate = .awaitingSync) (hlast : s.rowidx = s.nrows) (hcoded : Coded s t) :
    EncodeMove s t.finishEncode
  | load {t : State} {row : List Colour} (hfstate : s.fstate = .awaitingSync) (hmore : s.rowidx ≠ s.nrows)
    (hlength : row.length = s.columns) (hcoded : Coded s t) :
    EncodeMove s { t with cur := t.cur.overwrite row, fstate := .decodingRow }
  | code {t : State} (hfstate : s.fstate = .decodingRow) (hwhole : s.columns ≤ s.cur.length) (hcoded : Coded s t) :
    EncodeMove s { t with fstate := .rowComplete }
  | close (hfstate : s.fstate = .rowComplete) (hwhole : s.columns ≤ s.cur.length) :
    EncodeMove s { s.closeRow with fstate := .awaitingSync }

/-- A fetch inside a row: an error stop, or a codeword's action behind bits of the stream. -/
theorem decodeMove_of_fetch {s t : State} {c : Context} (hfstate : s.fstate = .decodingRow)
    (hcontext : s.context = some c) (hstep : s.decodeStep c = .next t) : DecodeMove s t := by
  obtain ⟨-, hanswer⟩ | ⟨f, -, ⟨i, -, hanswer⟩ | ⟨hdecode, -⟩ | ⟨why, -, -, hanswer⟩⟩ := s.decodeStep_cases c
  · cases hanswer.symm.trans hstep
  · obtain ⟨e, he, rfl⟩ | ⟨hpos, hinside, haction⟩ := rowMove_of_exec hfstate (hanswer.symm.trans hstep)
    · exact .error hfstate he
    · exact .row hfstate hpos hinside haction
  · obtain ⟨set, rfl⟩ := (noMarker_iff_sync hdecode).mp rfl
    obtain ⟨-, -, hat, -⟩ := State.context_sync.mp hcontext
    rw [hfstate] at hat
    cases hat
  · cases hanswer.symm.trans hstep
    exact .error hfstate (noMatchError_mem why f.avail)

theorem decodeMove_of_step {s t : State} (hstep : s.decodeEngineStep = .next t) : DecodeMove s t := by
  cases hfstate : s.fstate with
  | awaitingSync => exact .boundary hfstate (boundaryMove_of_engineStep hfstate hstep)
  | decodingRow | rowComplete | idle | terminated =>
    obtain ⟨hat, -⟩ | ⟨hat, -⟩ | ⟨hat, c, hcontext, hfetch⟩ | ⟨hat, hclose⟩ := State.decodeEngineStep_next hstep
    · cases hfstate.symm.trans hat
    · cases hfstate.symm.trans hat
    · exact decodeMove_of_fetch hat hcontext hfetch
    · obtain ⟨hwhole, -, ⟨-, rfl⟩ | ⟨-, rfl⟩⟩ := State.decodeRowComplete_next hclose
      · exact .last hat hwhole
      · exact .next hat hwhole

/-- A loaded row is as long as the line. -/
theorem length_of_toColours {b : Bool} {bs : List Byte} {row : List Colour} (hrow : toColours b bs = some row) :
    row.length = bs.length := by
  induction bs generalizing row with
  | nil => cases hrow; rfl
  | cons v bs ih =>
    rw [toColours] at hrow
    split at hrow
    case h_1 c cs _ hcs => cases hrow; rw [List.length_cons, List.length_cons, ih hcs]
    case h_2 => cases hrow

theorem encodeMove_of_step {s t : State} (hstep : s.encodeEngineStep = .next t) : EncodeMove s t := by
  obtain ⟨hfstate, hload⟩ | ⟨hfstate, hcode⟩ | ⟨hfstate, hclose⟩ := State.encodeEngineStep_next hstep
  · obtain ⟨hlast, u, hemit, rfl⟩ | ⟨hmore, bs, row, u, hbytes, hrow, hemit, rfl⟩ :=
      State.encodeAwaitingSync_next hload
    · exact .finish hfstate hlast (coded_emitAll ((emitTerminator_eq s).symm.trans hemit))
    · obtain ⟨hlength, -⟩ := Memory.readBlock_eq_some hbytes
      exact .load hfstate hmore ((length_of_toColours hrow).trans hlength)
        (coded_emitAll ((emitPrefix_eq s).symm.trans hemit))
  · obtain ⟨hwhole, ⟨-, u, hrow, rfl⟩ | ⟨-, -, u, hrow, rfl⟩⟩ := State.encodeDecodingRow_next hcode
    · exact .code hfstate hwhole (coded_encodeRow (.inl hrow))
    · exact .code hfstate hwhole (coded_encodeRow (.inr hrow))
  · obtain ⟨hwhole, rfl⟩ := State.encodeRowComplete_next hclose
    exact .close hfstate hwhole

/-! ### The machine's moves -/

/-- Everything a step of the machine can do, `h` being the host's moves it leaves. -/
inductive MachineMove (s : State) : State → Prop
  | decode {h : List HostMove} {t : State} (hbusy : s.busy = true) (hdir : s.dirl = .decode)
    (hmove : DecodeMove { s with host := h } t) : MachineMove s t
  | encode {h : List HostMove} {t : State} (hbusy : s.busy = true) (hdir : s.dirl = .encode)
    (hmove : EncodeMove { s with host := h } t) : MachineMove s t
  | none (h : List HostMove) (v : Int) : MachineMove s { s with host := h, hostData := v }
  | access {a : Access} {h : List HostMove} {t : State} (hbusy : s.busy = false) (hhost : s.host = .access a :: h)
    (haccess : { s with host := h }.idleAccess a = .next t) : MachineMove s t
  | reset {h : List HostMove} (hhost : s.host = .reset :: h) : MachineMove s { s with host := h }.resetBlock

theorem machineMove_of_engineStep {s t : State} (h : List HostMove)
    (hstep : { s with host := h }.engineStep = .next t) : MachineMove s t := by
  obtain ⟨-, rfl⟩ | ⟨hbusy, hdir, hdecode⟩ | ⟨hbusy, hdir, hencode⟩ := State.engineStep_next hstep
  · exact .none h s.hostData
  · exact .decode hbusy hdir (decodeMove_of_step hdecode)
  · exact .encode hbusy hdir (encodeMove_of_step hencode)

theorem machineMove_of_step {s t : State} (hstep : step s = .next t) : MachineMove s t := by
  obtain ⟨-, hengine⟩ | ⟨m, h, hhost, ⟨rfl, hengine⟩ | ⟨a, rfl, haccess⟩ | ⟨rfl, -, hengine⟩ | ⟨rfl, -, rfl⟩ |
    ⟨rfl, rfl⟩⟩ := State.machineStep_next hstep
  · exact machineMove_of_engineStep s.host hengine
  · exact machineMove_of_engineStep h hengine
  · cases hbusy : s.busy with
    | true =>
      obtain ⟨-, rfl⟩ := State.hostAccess_busy (s := { s with host := h }) hbusy haccess
      exact .none h _
    | false => exact .access hbusy hhost ((if_neg (by simp [hbusy])).symm.trans haccess)
  · exact machineMove_of_engineStep s.host hengine
  · exact .none h _
  · exact .reset hhost

/-- During a call, without a reset, only the engine acts; the host reads `STATUS` at most. -/
theorem busy_step_cases {s t : State} (hbusy : s.busy = true) (hnoreset : s.host.head? ≠ some .reset)
    (hstep : step s = .next t) :
    (s.dirl = .decode ∧ ∃ h, DecodeMove { s with host := h } t) ∨
    (s.dirl = .encode ∧ ∃ h, EncodeMove { s with host := h } t) ∨ ∃ h v, t = { s with host := h, hostData := v } := by
  cases machineMove_of_step hstep with
  | decode _ hdir hmove => exact .inl ⟨hdir, _, hmove⟩
  | encode _ hdir hmove => exact .inr (.inl ⟨hdir, _, hmove⟩)
  | none h v => exact .inr (.inr ⟨h, v, rfl⟩)
  | access hidle => rw [hbusy] at hidle; cases hidle
  | reset hhost => rw [hhost] at hnoreset; exact absurd rfl hnoreset

/-! ### What the engine's moves change -/

/-- A decode step changes neither the stream nor the configuration. -/
theorem decodeMove_frame {s t : State} (hmove : DecodeMove s t) :
    t = { s with
      busy := t.busy, done := t.done, fstate := t.fstate, err := t.err, pixRows := t.pixRows, bitpos := t.bitpos
      color := t.color, a0 := t.a0, col := t.col, runacc := t.runacc, rowidx := t.rowidx, cur := t.cur, ref := t.ref
      pix := t.pix, hphase := t.hphase, freeCount := t.freeCount } := by
  cases hmove with
  | boundary _ hmove =>
    cases hmove with
    | finish => rfl
    | begin => unfold Spec.rowAt; split <;> rfl
    | error => rfl
  | error => rfl
  | row hfstate _ _ haction =>
    obtain ⟨hframe, -⟩ := rowAction_frame hfstate haction
    rw [hframe]
  | last => rfl
  | next => rfl

/-- An encode step changes neither the bitmap nor the configuration, and no error. -/
theorem encodeMove_frame {s t : State} (hmove : EncodeMove s t) :
    t = { s with
      busy := t.busy, done := t.done, fstate := t.fstate, codeLen := t.codeLen, bitpos := t.bitpos, color := t.color
      a0 := t.a0, col := t.col, rowidx := t.rowidx, cur := t.cur, ref := t.ref, code := t.code } := by
  cases hmove with
  | finish _ _ hcoded => rw [hcoded.frame]; rfl
  | load _ _ _ hcoded => rw [hcoded.frame]
  | code _ _ hcoded => rw [hcoded.frame]
  | close => rfl

/-- Settles O44: the frames of the two directions. -/
theorem callsKeepTheirInputs : Obligations.CallsKeepTheirInputs := by
  intro s t hbusy hnoreset hstep
  obtain ⟨hdir, h, hmove⟩ | ⟨hdir, h, hmove⟩ | ⟨h, v, rfl⟩ := busy_step_cases hbusy hnoreset hstep
  · have hencode : s.dirl ≠ .encode := by rw [hdir]; decide
    rw [decodeMove_frame hmove]
    exact ⟨rfl, rfl, rfl, rfl, rfl, rfl, fun _ => ⟨rfl, rfl⟩, fun hother => absurd hother hencode⟩
  · have hdecode : s.dirl ≠ .decode := by rw [hdir]; decide
    rw [encodeMove_frame hmove]
    exact ⟨rfl, rfl, rfl, rfl, rfl, rfl, fun hother => absurd hother hdecode, fun _ => ⟨rfl, rfl⟩⟩
  · exact ⟨rfl, rfl, rfl, rfl, rfl, rfl, fun _ => ⟨rfl, rfl⟩, fun _ => ⟨rfl, rfl⟩⟩

/-- Settles O45: an encode step changes no error, and neither does a read of `STATUS`. -/
theorem encodeCallsRaiseNothing : Obligations.EncodeCallsRaiseNothing := by
  intro s t hbusy hdir hnoreset hstep
  obtain ⟨hother, -⟩ | ⟨-, h, hmove⟩ | ⟨h, v, rfl⟩ := busy_step_cases hbusy hnoreset hstep
  · rw [hdir] at hother; cases hother
  · rw [encodeMove_frame hmove]
  · rfl

/-! ### The cursor -/

theorem le_alignUp (p : Nat) : p ≤ alignUp p := by
  unfold alignUp
  omega

theorem le_closeRow_bitpos (s : State) : s.bitpos ≤ s.closeRow.bitpos := by
  rw [State.closeRow_bitpos]
  split
  · exact le_alignUp _
  · exact le_rfl

theorem decodeMove_forward {s t : State} (hmove : DecodeMove s t) : s.bitpos ≤ t.bitpos := by
  cases hmove with
  | boundary _ hmove =>
    cases hmove with
    | finish hforward => exact hforward
    | begin hforward => rwa [rowAt_bitpos]
    | error => exact le_rfl
  | error => exact le_rfl
  | row hfstate _ _ haction =>
    obtain ⟨hframe, -⟩ := rowAction_frame hfstate haction
    rw [hframe]
    exact Nat.le_add_right _ _
  | last => exact le_closeRow_bitpos (s.storeRow s.rowidx)
  | next => exact le_closeRow_bitpos (s.storeRow s.rowidx)

theorem encodeMove_forward {s t : State} (hmove : EncodeMove s t) : s.bitpos ≤ t.bitpos := by
  cases hmove with
  | finish _ _ hcoded => exact hcoded.forward
  | load _ _ _ hcoded => exact hcoded.forward
  | code _ _ hcoded => exact hcoded.forward
  | close => exact le_closeRow_bitpos s

/-- Settles O46: the moves of either direction go forward. -/
theorem theCursorNeverMovesBack : Obligations.TheCursorNeverMovesBack := by
  intro s t hbusy hnoreset hstep
  obtain ⟨-, h, hmove⟩ | ⟨-, h, hmove⟩ | ⟨h, v, rfl⟩ := busy_step_cases hbusy hnoreset hstep
  · exact decodeMove_forward (s := { s with host := h }) hmove
  · exact encodeMove_forward (s := { s with host := h }) hmove
  · exact le_rfl

/-! ### The memories -/

theorem decodeMove_canonical {s t : State} (hmove : DecodeMove s t) (hs : s.MemoriesCanonical) :
    t.MemoriesCanonical := by
  obtain ⟨hcode, hpix⟩ := hs
  cases hmove with
  | boundary _ hmove =>
    cases hmove with
    | finish => exact ⟨hcode, hpix⟩
    | begin => unfold Spec.rowAt; split <;> exact ⟨hcode, hpix⟩
    | error => exact ⟨hcode, Memory.wf_map hpix _⟩
  | error => exact ⟨hcode, Memory.wf_map hpix _⟩
  | row hfstate _ _ haction =>
    obtain ⟨hframe, -⟩ := rowAction_frame hfstate haction
    rw [hframe]
    exact ⟨hcode, hpix⟩
  | last => exact ⟨hcode, Memory.wf_writeBlock hpix _ _⟩
  | next => exact ⟨hcode, Memory.wf_writeBlock hpix _ _⟩

theorem encodeMove_canonical {s t : State} (hmove : EncodeMove s t) (hs : s.MemoriesCanonical) :
    t.MemoriesCanonical := by
  obtain ⟨hcode, hpix⟩ := hs
  have hpix' : t.pix.wf = true := by rw [encodeMove_frame hmove]; exact hpix
  cases hmove with
  | finish _ _ hcoded => exact ⟨hcoded.canonical hcode, hpix'⟩
  | load _ _ _ hcoded => exact ⟨hcoded.canonical hcode, hpix'⟩
  | code _ _ hcoded => exact ⟨hcoded.canonical hcode, hpix'⟩
  | close => exact ⟨hcode, hpix⟩

/-- An admitted START keeps what is written. -/
theorem start_memories {s t : State} {d : Dir} (hstart : s.start d = .next t) : t.code = s.code ∧ t.pix = s.pix := by
  obtain ⟨-, hstarted⟩ := State.start_next hstart
  cases d <;> rw [hstarted]
  case encode => exact ⟨State.startCall_code _ _, State.startCall_pix _ _⟩
  case decode => exact ⟨State.startCall_code _ _, State.startCall_pix _ _⟩

theorem idleAccess_canonical {s t : State} {a : Access} (haccess : s.idleAccess a = .next t)
    (hs : s.MemoriesCanonical) : t.MemoriesCanonical := by
  obtain ⟨v, rfl⟩ | rfl | ⟨v, rfl⟩ | ⟨v, rfl⟩ | ⟨v, rfl⟩ | ⟨v, rfl⟩ | ⟨v, rfl⟩ | ⟨v, rfl⟩ | ⟨v, rfl⟩ | ⟨m, o, b, rfl⟩ |
    ⟨d, hstart⟩ := State.idleAccess_next haccess
  case inr.inr.inr.inr.inr.inr.inr.inr.inr.inl => exact State.writeMem_wf s m o b hs
  case inr.inr.inr.inr.inr.inr.inr.inr.inr.inr =>
    obtain ⟨hcode, hpix⟩ := start_memories hstart
    rw [State.MemoriesCanonical, hcode, hpix]
    exact hs
  all_goals exact hs

/-- Settles O60: the engine's moves, the host's writes, and the empty memories of a reset. -/
theorem everyStepKeepsMemoriesCanonical : Obligations.EveryStepKeepsMemoriesCanonical := by
  intro s t hs hstep
  cases machineMove_of_step hstep with
  | decode _ _ hmove => exact decodeMove_canonical hmove hs
  | encode _ _ hmove => exact encodeMove_canonical hmove hs
  | none => exact hs
  | access _ _ haccess => exact idleAccess_canonical haccess hs
  | reset => exact reset_memories_wf

/-! ### The frame state -/

/-- A decode step stays in a row or moves along R479's table. -/
theorem decodeMove_fstate {s t : State} (hdir : s.dirl = .decode) (hmove : DecodeMove s t) :
    t.fstate = s.fstate ∨ (s.dirl, s.fstate, t.fstate) ∈ Spec.frameSteps := by
  cases hmove with
  | boundary hfstate hmove =>
    have hnext : t.fstate = .decodingRow ∨ t.fstate = .terminated := by
      cases hmove with
      | finish => exact .inr rfl
      | begin => unfold Spec.rowAt; split <;> exact .inl rfl
      | error => exact .inr rfl
    obtain hnext | hnext := hnext <;> rw [hdir, hfstate, hnext] <;> exact .inr (by decide)
  | row hfstate _ _ haction =>
    obtain ⟨-, hstay | hdone⟩ := rowAction_frame hfstate haction
    · exact .inl (hstay.trans hfstate.symm)
    · rw [hdir, hfstate, hdone]
      exact .inr (by decide)
  | error hfstate =>
    rw [hdir, hfstate]
    exact .inr (show (Dir.decode, FState.decodingRow, FState.terminated) ∈ Spec.frameSteps by decide)
  | last hfstate =>
    rw [hdir, hfstate]
    exact .inr (show (Dir.decode, FState.rowComplete, FState.terminated) ∈ Spec.frameSteps by decide)
  | next hfstate =>
    rw [hdir, hfstate]
    exact .inr (show (Dir.decode, FState.rowComplete, FState.awaitingSync) ∈ Spec.frameSteps by decide)

/-- An encode step moves along R479's table. -/
theorem encodeMove_fstate {s t : State} (hdir : s.dirl = .encode) (hmove : EncodeMove s t) :
    (s.dirl, s.fstate, t.fstate) ∈ Spec.frameSteps := by
  cases hmove with
  | finish hfstate =>
    rw [hdir, hfstate]
    exact show (Dir.encode, FState.awaitingSync, FState.terminated) ∈ Spec.frameSteps by decide
  | load hfstate =>
    rw [hdir, hfstate]
    exact show (Dir.encode, FState.awaitingSync, FState.decodingRow) ∈ Spec.frameSteps by decide
  | code hfstate =>
    rw [hdir, hfstate]
    exact show (Dir.encode, FState.decodingRow, FState.rowComplete) ∈ Spec.frameSteps by decide
  | close hfstate =>
    rw [hdir, hfstate]
    exact show (Dir.encode, FState.rowComplete, FState.awaitingSync) ∈ Spec.frameSteps by decide

/-! ### START -/

theorem ctrl_start_bit (v : Int) : (BitVec.ofInt 2 v).getLsbD 0 = true ↔ v % 2 = 1 := by
  rw [BitVec.getLsbD, BitVec.toNat_ofInt, Nat.testBit_zero]
  simp
  omega

theorem ctrl_dir_bit (v : Int) : (BitVec.ofInt 2 v).getLsbD 1 = true ↔ 2 ≤ v % 4 := by
  rw [BitVec.getLsbD, BitVec.toNat_ofInt, Nat.testBit_succ, Nat.testBit_zero]
  simp
  omega

theorem writeCtrl_of_even {s : State} {v : Int} (hv : v % 2 = 0) : s.writeCtrl v = .next s :=
  if_neg (by rw [ctrl_start_bit]; omega)

theorem writeCtrl_of_odd {s : State} {v : Int} (hv : v % 2 = 1) :
    s.writeCtrl v = s.start (if 2 ≤ v % 4 then .decode else .encode) := by
  rw [State.writeCtrl, if_pos ((ctrl_start_bit v).mpr hv)]
  simp only [ctrl_dir_bit]

/-- A call has been admitted and started in one of the two directions. -/
abbrev Started (s t : State) : Prop :=
  (s.notAdmitted .encode = none ∧ t = s.startEncode) ∨ (s.notAdmitted .decode = none ∧ t = s.startDecode)

theorem started_of_start {s t : State} {d : Dir} (hstart : s.start d = .next t) :
    Started s t := by
  obtain ⟨hadmitted, hstarted⟩ := State.start_next hstart
  cases d with
  | encode => exact .inl ⟨hadmitted, hstarted⟩
  | decode => exact .inr ⟨hadmitted, hstarted⟩

/-- Two states in the same frame state of the same call. -/
abbrev SameStatus (s t : State) : Prop :=
  t.busy = s.busy ∧ t.done = s.done ∧ t.dirl = s.dirl ∧ t.fstate = s.fstate ∧ t.err = s.err ∧ t.hphase = s.hphase

/-- An access of an idle block is an admitted START or leaves `STATUS` alone. -/
theorem idleAccess_cases {s t : State} {a : Access} (haccess : s.idleAccess a = .next t) :
    (∃ v, a = .writeReg 0 v ∧ v % 2 = 1 ∧ s.writeCtrl v = .next t) ∨ SameStatus s t := by
  cases a with
  | readReg n =>
    rw [State.idleAccess] at haccess
    split at haccess <;> cases haccess
    exact .inr ⟨rfl, rfl, rfl, rfl, rfl, rfl⟩
  | writeReg n v =>
    rw [State.idleAccess] at haccess
    unfold State.writeReg at haccess
    split at haccess
    case h_1 =>
      obtain hv | hv := Int.emod_two_eq v
      · rw [writeCtrl_of_even hv] at haccess
        cases haccess
        exact .inr ⟨rfl, rfl, rfl, rfl, rfl, rfl⟩
      · exact .inl ⟨v, rfl, hv, haccess⟩
    all_goals cases haccess
    all_goals exact .inr ⟨rfl, rfl, rfl, rfl, rfl, rfl⟩
  | readMem m o =>
    rw [State.idleAccess] at haccess
    split at haccess
    · split at haccess <;> cases haccess
      exact .inr ⟨rfl, rfl, rfl, rfl, rfl, rfl⟩
    · cases haccess
  | writeMem m o b =>
    rw [State.idleAccess] at haccess
    split at haccess <;> cases haccess
    cases m <;> exact .inr ⟨rfl, rfl, rfl, rfl, rfl, rfl⟩

/-- What an odd write of `CTRL` that is a step leads to. -/
theorem started_of_writeCtrl {s t : State} {v : Int} (hv : v % 2 = 1) (hwrite : s.writeCtrl v = .next t) :
    Started s t :=
  started_of_start ((writeCtrl_of_odd hv).symm.trans hwrite)

theorem started_fstate {s t : State}
    (hstarted : Started s t) :
    t.fstate = .awaitingSync := by
  obtain ⟨-, rfl⟩ | ⟨-, rfl⟩ := hstarted <;> exact State.startCall_fstate _ _

/-- Without a call the frame state is `Idle` or `Terminated`. -/
theorem fstate_of_idle {s : State} (hs : s.StatusConsistent) (hidle : s.busy = false) :
    s.fstate = .idle ∨ s.fstate = .terminated := by
  obtain ⟨hbusy, -⟩ := hs
  rw [hidle] at hbusy
  cases hfstate : s.fstate with
  | idle => exact .inl rfl
  | terminated => exact .inr rfl
  | awaitingSync | decodingRow | rowComplete => rw [hfstate] at hbusy; cases hbusy

/-- Settles O43: by the machine's moves. -/
theorem frameStateTransitions : Obligations.FrameStateTransitions := by
  intro s t hs hstep
  cases machineMove_of_step hstep with
  | @decode h _ hbusy hdir hmove =>
    obtain hstay | hmoved := decodeMove_fstate (s := { s with host := h }) hdir hmove
    · exact .inl hstay
    · exact .inr (.inl ⟨hbusy, hmoved⟩)
  | @encode h _ hbusy hdir hmove =>
    exact .inr (.inl ⟨hbusy, encodeMove_fstate (s := { s with host := h }) hdir hmove⟩)
  | none => exact .inl rfl
  | access hidle hhost haccess =>
    obtain ⟨v, rfl, hv, hwrite⟩ | ⟨-, -, -, hstay, -, -⟩ := idleAccess_cases haccess
    · have hfstate := started_fstate (started_of_writeCtrl hv hwrite)
      exact .inr (.inr (.inl ⟨fstate_of_idle hs hidle, hfstate, v, _, hhost, hv⟩))
    · exact .inl hstay
  | reset hhost => exact .inr (.inr (.inr ⟨rfl, by rw [hhost]; rfl⟩))

/-- Settles O54: the engine of an idle block does nothing. -/
theorem anIdleEngineDoesNothing : Obligations.AnIdleEngineDoesNothing := by
  intro s hbusy hhost
  exact (s.machineStep_engine hhost).trans (s.engineStep_idle hbusy)

end Sys2Proof.Proofs
end

section
/-! The engine does not see the host: replacing the host's moves and running the engine are independent, so admission
(R523) does not depend on what the host does later. -/

namespace Sys2Proof.Proofs

open Sys2Proof.Machine

/-- A state with other moves of the host to come. -/
def withHost (h : List HostMove) (s : State) : State := { s with host := h }

/-- An outcome with its next state changed. -/
def onNext (f : State → State) : Result → Result
  | .next t => .next (f t)
  | .fault r => .fault r
  | .refused r => .refused r

/-- An operation on states that does not see the host. -/
abbrev IgnoresHost (act : State → State) : Prop := ∀ h s, act (withHost h s) = withHost h (act s)

/-- A step that does not see the host. -/
abbrev StepIgnoresHost (act : State → Result) : Prop := ∀ h s, act (withHost h s) = onNext (withHost h) (act s)

/-- An emission that does not see the host. -/
abbrev EmitIgnoresHost (act : State → Option State) : Prop := ∀ h s, act (withHost h s) = (act s).map (withHost h)

/-- What two values are in a branch carries over to the values themselves. -/
theorem apply_of_branch {A B : Type} {f : A → B} {x a : B} {y b : A} (hx : x = a) (hy : y = b) (hbranch : a = f b) :
    x = f y := by
  rw [hx, hy, hbranch]

/-! ### Codewords -/

theorem endRowIf_withHost (h : List HostMove) (s : State) (b : Bool) :
    (withHost h s).endRowIf b = withHost h (s.endRowIf b) := by
  cases b <;> rfl

theorem afterRun_none {s : State} (hphase : s.hphase = .none) :
    s.afterRun = s.endRowIf (decide (s.columns ≤ s.col)) := by
  simp only [State.afterRun, hphase]

theorem afterRun_first {s : State} (hphase : s.hphase = .first) :
    s.afterRun = { s with hphase := .second, runacc := 0 } := by
  simp only [State.afterRun, hphase]

theorem afterRun_second {s : State} (hphase : s.hphase = .second) :
    s.afterRun = { s with hphase := .none, a0 := (s.col : Int) }.endRowIf (decide (s.columns ≤ s.col)) := by
  simp only [State.afterRun, hphase]

theorem afterRun_withHost : IgnoresHost State.afterRun := by
  intro h s
  cases hphase : s.hphase with
  | none => exact apply_of_branch (afterRun_none hphase) (afterRun_none hphase) (endRowIf_withHost h s _)
  | first => exact apply_of_branch (afterRun_first hphase) (afterRun_first hphase) rfl
  | second =>
    exact apply_of_branch (afterRun_second hphase) (afterRun_second hphase)
      (endRowIf_withHost h { s with hphase := .none, a0 := (s.col : Int) } _)

theorem terminalAction_withHost (r : Nat) : IgnoresHost (·.terminalAction r) := fun h s =>
  afterRun_withHost h (State.drawRun { s with runacc := 0 } (s.runacc + r))

theorem passAction_withHost (n : Nat) : IgnoresHost (·.passAction n) := fun h s =>
  endRowIf_withHost h ((s.advance n).drawTo s.b2) (decide (s.columns ≤ s.b2))

theorem verticalAction_withHost (n : Nat) (d : Int) : IgnoresHost (·.verticalAction n d) := by
  intro h s
  by_cases hrange : (s.b1 : Int) + d ≤ s.a0 ∨ (s.columns : Int) < (s.b1 : Int) + d
  · exact apply_of_branch (if_pos hrange) (if_pos hrange) rfl
  · exact apply_of_branch (if_neg hrange) (if_neg hrange)
      (endRowIf_withHost h { (s.advance n).drawTo ((s.b1 : Int) + d).toNat with color := s.color.opp } _)

theorem beginRow_withHost : IgnoresHost State.beginRow := by
  intro h s
  cases hkind : s.rowKind with
  | oneD => exact apply_of_branch (State.beginRow_oneD _ hkind) (State.beginRow_oneD s hkind) rfl
  | twoD => exact apply_of_branch (State.beginRow_twoD _ hkind) (State.beginRow_twoD s hkind) rfl

theorem rowPrefix_withHost (u : Instr) : IgnoresHost (·.rowPrefix u) := fun h s =>
  beginRow_withHost h (s.advance (encode u).length)

theorem noPrefix_withHost : IgnoresHost State.noPrefix := by
  intro h s
  by_cases hwanted : 0 ≤ s.cfgK ∧ s.endOfLine = true
  · exact apply_of_branch (if_pos hwanted) (if_pos hwanted) rfl
  · exact apply_of_branch (if_neg hwanted) (if_neg hwanted) (beginRow_withHost h s)

theorem inContext_withHost {act : State → Result} (c : Context) (hact : StepIgnoresHost act) :
    StepIgnoresHost fun s => s.inContext c (act s) := by
  intro h s
  by_cases hc : s.context = some c
  · exact apply_of_branch (if_pos hc) (if_pos hc) (hact h s)
  · exact apply_of_branch (if_neg hc) (if_neg hc) rfl

theorem runCode_withHost {act : State → State} (i : Instr) (hact : IgnoresHost act) :
    StepIgnoresHost fun s => s.runCode i act := by
  intro h s
  by_cases hgenuine : s.genuine < (encode i).length
  · exact apply_of_branch (if_pos hgenuine) (if_pos hgenuine) rfl
  refine apply_of_branch (if_neg hgenuine) (if_neg hgenuine) ?_
  by_cases hrange : s.columns < s.col + s.runacc + i.runLength
  · exact apply_of_branch (if_pos hrange) (if_pos hrange) rfl
  · exact apply_of_branch (if_neg hrange) (if_neg hrange) (congrArg _ (hact h (s.advance (encode i).length)))

theorem controlCode_withHost {act : State → State} (i : Instr) (hact : IgnoresHost act) :
    StepIgnoresHost fun s => s.controlCode i act := by
  refine inContext_withHost .ctrl2d fun h s => ?_
  by_cases hgenuine : s.genuine < (encode i).length
  · exact apply_of_branch (if_pos hgenuine) (if_pos hgenuine) rfl
  refine apply_of_branch (if_neg hgenuine) (if_neg hgenuine) ?_
  by_cases hline : s.ref.length < s.columns
  · exact apply_of_branch (if_pos hline) (if_pos hline) rfl
  · exact apply_of_branch (if_neg hline) (if_neg hline) (congrArg _ (hact h s))

theorem marker_unwritten {s : State} {u : Instr} {lone : State}
    (hcount : countMarks s.code s.codeBytes (encode u) (termCount s.cfgK - 1) (s.bitpos + (encode u).length) = none) :
    s.marker u lone = .refused (.unwrittenByte .code) := by
  rw [State.marker, hcount]

theorem afterMarks_withHost {lone : State → State} (u : Instr) (n : Nat) (hlone : IgnoresHost lone) :
    IgnoresHost fun s => afterMarks s u (lone s) n := by
  intro h s
  by_cases hfull : n = termCount s.cfgK
  · exact apply_of_branch (if_pos hfull) (if_pos hfull) rfl
  refine apply_of_branch (if_neg hfull) (if_neg hfull) ?_
  by_cases hmore : tolerance s.cfgK < n
  · exact apply_of_branch (if_pos hmore) (if_pos hmore) rfl
  refine apply_of_branch (if_neg hmore) (if_neg hmore) ?_
  by_cases hnone : n = 0
  · exact apply_of_branch (if_pos hnone) (if_pos hnone) (noPrefix_withHost h s)
  · exact apply_of_branch (if_neg hnone) (if_neg hnone) (hlone h s)

theorem marker_withHost {lone : State → State} (u : Instr) (hlone : IgnoresHost lone) :
    StepIgnoresHost fun s => s.marker u (lone s) := by
  intro h s
  cases hcount : countMarks s.code s.codeBytes (encode u) (termCount s.cfgK - 1) (s.bitpos + (encode u).length) with
  | none => exact apply_of_branch (marker_unwritten hcount) (marker_unwritten hcount) rfl
  | some n =>
    exact apply_of_branch (marker_of_count hcount) (marker_of_count hcount)
      (congrArg _ (afterMarks_withHost u (n + 1) hlone h s))

theorem makeupCode_withHost (c : Colour) (i : Instr) : StepIgnoresHost (·.makeupCode c i) :=
  inContext_withHost (Context.ofColour c) (runCode_withHost i fun _ _ => rfl)

theorem execEOL1_withHost : StepIgnoresHost execEOL1 := by
  intro h s
  by_cases hc : s.context = some (.sync .eol0OrEol1)
  · exact apply_of_branch (if_pos hc) (if_pos hc) (marker_withHost .eol1 noPrefix_withHost h s)
  · exact apply_of_branch (if_neg hc) (if_neg hc)
      (inContext_withHost (.sync .eol1) (marker_withHost .eol1 (rowPrefix_withHost .eol1)) h s)

theorem exec_withHost (i : Instr) : StepIgnoresHost (exec i) := by
  intro h s
  rw [exec_run, exec_run]
  split
  case h_1 c r _ =>
    exact inContext_withHost (Context.ofColour c) (runCode_withHost i (terminalAction_withHost i.runLength)) h s
  case h_2 => exact makeupCode_withHost _ i h s
  case h_3 => exact makeupCode_withHost s.color i h s
  case h_4 => exact controlCode_withHost .p (passAction_withHost 4) h s
  case h_5 => exact controlCode_withHost .h (fun _ _ => rfl) h s
  case h_6 d _ => exact controlCode_withHost i (verticalAction_withHost (encode i).length d) h s
  case h_7 => exact inContext_withHost (.sync .eol) (marker_withHost .eol (rowPrefix_withHost .eol)) h s
  case h_8 =>
    exact inContext_withHost (act := fun s => .next (s.rowPrefix .eol0)) (.sync .eol0OrEol1)
      (fun h s => congrArg Host.Outcome.next (rowPrefix_withHost .eol0 h s)) h s
  case h_9 => exact execEOL1_withHost h s

/-! ### The decode direction -/

theorem decodeStep_of_reject {s : State} {c : Context} {f : Fetched} {why : Reject}
    (hfetch : fetchNextCode s.code s.codeBytes s.bitpos = some f) (hwhy : why ≠ .noMarker)
    (hdecode : decode c f.window f.avail = .reject why) :
    s.decodeStep c = .next (s.raise (noMatchError why f.avail) s.bitpos) := by
  rw [State.decodeStep, hfetch]
  simp only [hdecode]

theorem decodeStep_unwritten {s : State} {c : Context} (hfetch : fetchNextCode s.code s.codeBytes s.bitpos = none) :
    s.decodeStep c = .refused (.unwrittenByte .code) := by
  rw [State.decodeStep, hfetch]

theorem decodeStep_withHost (c : Context) : StepIgnoresHost (·.decodeStep c) := by
  intro h s
  cases hfetch : fetchNextCode s.code s.codeBytes s.bitpos with
  | none => exact apply_of_branch (decodeStep_unwritten hfetch) (decodeStep_unwritten hfetch) rfl
  | some f =>
    cases hdecode : decode c f.window f.avail with
    | instr i =>
      exact apply_of_branch (decodeStep_of_instr hfetch hdecode) (decodeStep_of_instr hfetch hdecode)
        (exec_withHost i h s)
    | reject why =>
      by_cases hwhy : why = .noMarker
      · subst hwhy
        exact apply_of_branch (decodeStep_of_noMarker hfetch hdecode) (decodeStep_of_noMarker hfetch hdecode)
          (congrArg _ (noPrefix_withHost h s))
      · exact apply_of_branch (decodeStep_of_reject hfetch hwhy hdecode) (decodeStep_of_reject hfetch hwhy hdecode) rfl

theorem decodeRowComplete_withHost : StepIgnoresHost State.decodeRowComplete := by
  intro h s
  by_cases hline : s.cur.length < s.columns
  · exact apply_of_branch (if_pos hline) (if_pos hline) rfl
  refine apply_of_branch (if_neg hline) (if_neg hline) ?_
  by_cases hroom : fitsIn s.params.pixBytes ((s.rowidx + 1) * s.columns) = true
  · refine apply_of_branch (if_pos hroom) (if_pos hroom) (congrArg _ ?_)
    by_cases hlimit : (s.storeRow s.rowidx).closeRow.rowLimitReached = true
    · exact apply_of_branch (if_pos hlimit) (if_pos hlimit) rfl
    · exact apply_of_branch (if_neg hlimit) (if_neg hlimit) rfl
  · exact apply_of_branch (if_neg hroom) (if_neg hroom) rfl

theorem decodeEngineStep_awaitingSync {s : State} (hfstate : s.fstate = .awaitingSync) :
    s.decodeEngineStep =
      if 8 * s.codeBytes ≤ s.bitpos then .next s.finish else s.decodeStep (.sync (syncSet s.cfgK s.rowidx)) := by
  rw [State.decodeEngineStep, hfstate]

theorem decodeEngineStep_decodingRow {s : State} {c : Context} (hfstate : s.fstate = .decodingRow)
    (hcontext : s.context = some c) : s.decodeEngineStep = s.decodeStep c := by
  rw [State.decodeEngineStep, hfstate]
  simp only [hcontext]

theorem decodeEngineStep_astray {s : State} (hfstate : s.fstate = .decodingRow) (hcontext : s.context = none) :
    s.decodeEngineStep = .fault .noTransition := by
  rw [State.decodeEngineStep, hfstate]
  simp only [hcontext]

theorem decodeEngineStep_stopped {s : State} (hfstate : s.fstate = .idle ∨ s.fstate = .terminated) :
    s.decodeEngineStep = .fault .noTransition := by
  obtain h | h := hfstate <;> rw [State.decodeEngineStep, h]

theorem decodeEngineStep_withHost : StepIgnoresHost State.decodeEngineStep := by
  intro h s
  cases hfstate : s.fstate with
  | awaitingSync =>
    refine apply_of_branch (decodeEngineStep_awaitingSync hfstate) (decodeEngineStep_awaitingSync hfstate) ?_
    by_cases hend : 8 * s.codeBytes ≤ s.bitpos
    · exact apply_of_branch (if_pos hend) (if_pos hend) rfl
    · exact apply_of_branch (if_neg hend) (if_neg hend) (decodeStep_withHost (.sync (syncSet s.cfgK s.rowidx)) h s)
  | decodingRow =>
    cases hcontext : s.context with
    | some c =>
      exact apply_of_branch (decodeEngineStep_decodingRow hfstate hcontext)
        (decodeEngineStep_decodingRow hfstate hcontext) (decodeStep_withHost c h s)
    | none =>
      exact apply_of_branch (decodeEngineStep_astray hfstate hcontext) (decodeEngineStep_astray hfstate hcontext) rfl
  | rowComplete =>
    exact apply_of_branch (decodeEngineStep_rowComplete hfstate) (decodeEngineStep_rowComplete hfstate)
      (decodeRowComplete_withHost h s)
  | idle =>
    exact apply_of_branch (decodeEngineStep_stopped (.inl hfstate)) (decodeEngineStep_stopped (.inl hfstate)) rfl
  | terminated =>
    exact apply_of_branch (decodeEngineStep_stopped (.inr hfstate)) (decodeEngineStep_stopped (.inr hfstate)) rfl

/-! ### The encode direction -/

theorem bind_withHost {first : State → Option State} {next : State → State → Option State}
    (hfirst : EmitIgnoresHost first)
    (hnext : ∀ h s t, next (withHost h s) (withHost h t) = (next s t).map (withHost h)) :
    EmitIgnoresHost fun s => (first s).bind (next s) := by
  intro h s
  dsimp only
  rw [hfirst h s]
  cases first s with
  | none => rfl
  | some t => exact hnext h s t

theorem map_withHost {first : State → Option State} {next : State → State → State} (hfirst : EmitIgnoresHost first)
    (hnext : ∀ h s t, next (withHost h s) (withHost h t) = withHost h (next s t)) :
    EmitIgnoresHost fun s => (first s).map (next s) := by
  intro h s
  dsimp only
  rw [hfirst h s]
  cases first s with
  | none => rfl
  | some t => exact congrArg some (hnext h s t)

theorem emit_of_addCode {s : State} {i : Instr} {o : Option Memory} (hadd : addCode s.code s.bitpos (encode i) = o) :
    s.emit i = o.map fun m => { s with code := m, bitpos := s.bitpos + (encode i).length } := by
  rw [State.emit, hadd]

theorem emit_withHost (i : Instr) : EmitIgnoresHost (·.emit i) := by
  intro h s
  cases hadd : addCode s.code s.bitpos (encode i) with
  | none => exact apply_of_branch (emit_of_addCode hadd) (emit_of_addCode hadd) rfl
  | some m => exact apply_of_branch (emit_of_addCode hadd) (emit_of_addCode hadd) rfl

theorem emitAll_withHost (is : List Instr) : EmitIgnoresHost (·.emitAll is) := by
  induction is with
  | nil => exact fun _ _ => rfl
  | cons i is ih =>
    intro h s
    exact apply_of_branch (State.emitAll_cons _ i is) (State.emitAll_cons s i is)
      (bind_withHost (emit_withHost i) (next := fun _ t => t.emitAll is) (fun h _ t => ih h t) h s)

theorem encodeRunStep_withHost : EmitIgnoresHost State.encodeRunStep := fun h s =>
  map_withHost (emitAll_withHost (runCodes s.color (runLengthAt s.cur s.columns s.col s.color)))
    (next := fun s t => { t with
      col := s.col + runLengthAt s.cur s.columns s.col s.color, color := s.color.opp }) (fun _ _ _ => rfl) h s

theorem encodeRuns_succ {n : Nat} {s : State} (hlt : s.col < s.columns) :
    State.encodeRuns (n + 1) s = s.encodeRunStep.bind (State.encodeRuns n) := by
  rw [State.encodeRuns, if_pos hlt]
  cases s.encodeRunStep <;> rfl

theorem encodeRuns_withHost (n : Nat) : EmitIgnoresHost (State.encodeRuns n) := by
  induction n with
  | zero => exact fun _ _ => rfl
  | succ n ih =>
    intro h s
    by_cases hlt : s.col < s.columns
    · exact apply_of_branch (encodeRuns_succ hlt) (encodeRuns_succ hlt)
        (bind_withHost encodeRunStep_withHost (next := fun _ t => State.encodeRuns n t) (fun h _ t => ih h t) h s)
    · have hle : s.columns ≤ s.col := not_lt.mp hlt
      exact apply_of_branch (encodeRuns_of_le (s := withHost h s) hle _) (encodeRuns_of_le hle _) rfl

theorem encodeModeStep_vertical_eq {s : State} {d : Int} (hmode : selectMode s.a1 s.b1 s.b2 = .vertical d) :
    s.encodeModeStep = (s.emitAll (Sys2Proof.verticalCode d).toList).map fun t =>
      { t with a0 := (s.a1 : Nat), color := s.color.opp, col := s.a1 } := by
  simp only [State.encodeModeStep, hmode]

theorem encodeModeStep_withHost : EmitIgnoresHost State.encodeModeStep := by
  intro h s
  cases hmode : selectMode s.a1 s.b1 s.b2 with
  | pass =>
    exact apply_of_branch (encodeModeStep_pass hmode) (encodeModeStep_pass hmode)
      (map_withHost (emit_withHost .p) (next := fun s t => { t with a0 := (s.b2 : Nat), col := s.b2 })
        (fun _ _ _ => rfl) h s)
  | vertical d =>
    exact apply_of_branch (encodeModeStep_vertical_eq hmode) (encodeModeStep_vertical_eq hmode)
      (map_withHost (emitAll_withHost (Sys2Proof.verticalCode d).toList)
        (next := fun s t => { t with a0 := (s.a1 : Nat), color := s.color.opp, col := s.a1 }) (fun _ _ _ => rfl) h s)
  | horizontal =>
    exact apply_of_branch (encodeModeStep_horizontal hmode) (encodeModeStep_horizontal hmode)
      (map_withHost (emitAll_withHost (pairCodes s)) (next := fun s t => { t with a0 := (s.a2 : Nat), col := s.a2 })
        (fun _ _ _ => rfl) h s)

theorem encodeModes_succ {n : Nat} {s : State} (hlt : s.a0 < s.columns) :
    State.encodeModes (n + 1) s = s.encodeModeStep.bind (State.encodeModes n) := by
  rw [State.encodeModes, if_pos hlt]
  cases s.encodeModeStep <;> rfl

theorem encodeModes_of_end {s : State} (hend : ¬ s.a0 < s.columns) (n : Nat) : State.encodeModes n s = some s := by
  cases n with
  | zero => rfl
  | succ n => rw [State.encodeModes, if_neg hend]

theorem encodeModes_withHost (n : Nat) : EmitIgnoresHost (State.encodeModes n) := by
  induction n with
  | zero => exact fun _ _ => rfl
  | succ n ih =>
    intro h s
    by_cases hlt : s.a0 < s.columns
    · exact apply_of_branch (encodeModes_succ hlt) (encodeModes_succ hlt)
        (bind_withHost encodeModeStep_withHost (next := fun _ t => State.encodeModes n t) (fun h _ t => ih h t) h s)
    · exact apply_of_branch (encodeModes_of_end (s := withHost h s) hlt _) (encodeModes_of_end hlt _) rfl

theorem emitted_withHost {act : State → Option State} (hact : EmitIgnoresHost act) :
    StepIgnoresHost fun s => State.emitted (act s) := by
  intro h s
  dsimp only
  rw [hact h s]
  cases act s with
  | none => rfl
  | some t =>
    by_cases hroom : fitsIn t.params.codeBytes ((t.bitpos + 7) / 8) = true
    · exact apply_of_branch (if_pos hroom) (if_pos hroom) rfl
    · exact apply_of_branch (if_neg hroom) (if_neg hroom) rfl

theorem encodeAwaitingSync_of_row {s : State} {bs : List Byte} {row : List Colour} (hmore : s.rowidx ≠ s.nrows)
    (hbytes : s.rowBytes s.rowidx = some bs) (hrow : toColours s.blackIs1 bs = some row) :
    s.encodeAwaitingSync = State.emitted
      ((s.emitAll (rowPrefixCodes s)).map fun t => { t with cur := t.cur.overwrite row, fstate := .decodingRow }) := by
  rw [State.encodeAwaitingSync, if_neg hmore, hbytes]
  simp only [hrow, emitPrefix_eq]

theorem encodeAwaitingSync_of_other {s : State} {bs : List Byte} (hmore : s.rowidx ≠ s.nrows)
    (hbytes : s.rowBytes s.rowidx = some bs) (hrow : toColours s.blackIs1 bs = none) :
    s.encodeAwaitingSync = .refused .notASentinel := by
  rw [State.encodeAwaitingSync, if_neg hmore, hbytes]
  simp only [hrow]

theorem encodeAwaitingSync_unwritten {s : State} (hmore : s.rowidx ≠ s.nrows) (hbytes : s.rowBytes s.rowidx = none) :
    s.encodeAwaitingSync = .refused (.unwrittenByte .pix) := by
  rw [State.encodeAwaitingSync, if_neg hmore, hbytes]

theorem encodeAwaitingSync_of_last {s : State} (hlast : s.rowidx = s.nrows) :
    s.encodeAwaitingSync = State.emitted ((s.emitAll (terminator s)).map State.finishEncode) := by
  rw [State.encodeAwaitingSync, if_pos hlast, emitTerminator_eq]

theorem encodeAwaitingSync_withHost : StepIgnoresHost State.encodeAwaitingSync := by
  intro h s
  by_cases hlast : s.rowidx = s.nrows
  · exact apply_of_branch (encodeAwaitingSync_of_last hlast) (encodeAwaitingSync_of_last hlast)
      (emitted_withHost (map_withHost (emitAll_withHost (terminator s)) (next := fun _ t => t.finishEncode)
        fun _ _ _ => rfl) h s)
  cases hbytes : s.rowBytes s.rowidx with
  | none =>
    exact apply_of_branch (encodeAwaitingSync_unwritten hlast hbytes) (encodeAwaitingSync_unwritten hlast hbytes) rfl
  | some bs =>
    cases hrow : toColours s.blackIs1 bs with
    | none =>
      exact apply_of_branch (encodeAwaitingSync_of_other hlast hbytes hrow)
        (encodeAwaitingSync_of_other hlast hbytes hrow) rfl
    | some row =>
      exact apply_of_branch (encodeAwaitingSync_of_row hlast hbytes hrow) (encodeAwaitingSync_of_row hlast hbytes hrow)
        (emitted_withHost (map_withHost (emitAll_withHost (rowPrefixCodes s))
          (next := fun _ t => { t with cur := t.cur.overwrite row, fstate := .decodingRow }) fun _ _ _ => rfl) h s)

theorem encodeRow1D_withHost : EmitIgnoresHost State.encodeRow1D := fun h s =>
  encodeRuns_withHost (s.columns + 1) h { s with color := .white, col := 0 }

theorem encodeRow2D_withHost : EmitIgnoresHost State.encodeRow2D := fun h s =>
  encodeModes_withHost (s.columns + 1) h { s with a0 := -1, color := .white, col := 0 }

theorem encodeDecodingRow_of_oneD {s : State} (hline : ¬ s.cur.length < s.columns) (hkind : s.rowKind = .oneD) :
    s.encodeDecodingRow = State.emitted (s.encodeRow1D.map fun t => { t with fstate := .rowComplete }) := by
  rw [State.encodeDecodingRow, if_neg hline, hkind]

theorem encodeDecodingRow_of_twoD {s : State} (hline : ¬ s.cur.length < s.columns) (hkind : s.rowKind = .twoD) :
    s.encodeDecodingRow = if s.ref.length < s.columns then .refused .unwrittenLine
      else State.emitted (s.encodeRow2D.map fun t => { t with fstate := .rowComplete }) := by
  rw [State.encodeDecodingRow, if_neg hline, hkind]

theorem encodeDecodingRow_withHost : StepIgnoresHost State.encodeDecodingRow := by
  intro h s
  by_cases hline : s.cur.length < s.columns
  · exact apply_of_branch (if_pos hline) (if_pos hline) rfl
  cases hkind : s.rowKind with
  | oneD =>
    exact apply_of_branch (encodeDecodingRow_of_oneD hline hkind) (encodeDecodingRow_of_oneD hline hkind)
      (emitted_withHost (map_withHost encodeRow1D_withHost (next := fun _ t => { t with fstate := .rowComplete })
        fun _ _ _ => rfl) h s)
  | twoD =>
    refine apply_of_branch (encodeDecodingRow_of_twoD hline hkind) (encodeDecodingRow_of_twoD hline hkind) ?_
    by_cases href : s.ref.length < s.columns
    · exact apply_of_branch (if_pos href) (if_pos href) rfl
    · exact apply_of_branch (if_neg href) (if_neg href)
        (emitted_withHost (map_withHost encodeRow2D_withHost (next := fun _ t => { t with fstate := .rowComplete })
          fun _ _ _ => rfl) h s)

theorem encodeRowComplete_withHost : StepIgnoresHost State.encodeRowComplete := by
  intro h s
  by_cases hline : s.cur.length < s.columns
  · exact apply_of_branch (if_pos hline) (if_pos hline) rfl
  · exact apply_of_branch (if_neg hline) (if_neg hline) rfl

theorem encodeEngineStep_stopped {s : State} (hfstate : s.fstate = .idle ∨ s.fstate = .terminated) :
    s.encodeEngineStep = .fault .noTransition := by
  obtain h | h := hfstate <;> rw [State.encodeEngineStep, h]

theorem encodeEngineStep_withHost : StepIgnoresHost State.encodeEngineStep := by
  intro h s
  cases hfstate : s.fstate with
  | awaitingSync =>
    exact apply_of_branch (encodeEngineStep_awaitingSync hfstate) (encodeEngineStep_awaitingSync hfstate)
      (encodeAwaitingSync_withHost h s)
  | decodingRow =>
    exact apply_of_branch (encodeEngineStep_decodingRow hfstate) (encodeEngineStep_decodingRow hfstate)
      (encodeDecodingRow_withHost h s)
  | rowComplete =>
    exact apply_of_branch (encodeEngineStep_rowComplete hfstate) (encodeEngineStep_rowComplete hfstate)
      (encodeRowComplete_withHost h s)
  | idle =>
    exact apply_of_branch (encodeEngineStep_stopped (.inl hfstate)) (encodeEngineStep_stopped (.inl hfstate)) rfl
  | terminated =>
    exact apply_of_branch (encodeEngineStep_stopped (.inr hfstate)) (encodeEngineStep_stopped (.inr hfstate)) rfl

/-! ### Admission -/

theorem engineStep_withHost : StepIgnoresHost State.engineStep := by
  intro h s
  obtain hbusy | hidle := Bool.eq_false_or_eq_true s.busy
  · cases hdir : s.dirl with
    | decode =>
      exact apply_of_branch (State.engineStep_decode (withHost h s) hbusy hdir) (s.engineStep_decode hbusy hdir)
        (decodeEngineStep_withHost h s)
    | encode =>
      exact apply_of_branch (State.engineStep_encode (withHost h s) hbusy hdir) (s.engineStep_encode hbusy hdir)
        (encodeEngineStep_withHost h s)
  · exact apply_of_branch (State.engineStep_idle (withHost h s) hidle) (s.engineStep_idle hidle) rfl

theorem runEngine_idle {s : State} (hidle : ¬ s.busy = true) (n : Nat) : State.runEngine n s = s := by
  cases n with
  | zero => rfl
  | succ n => rw [State.runEngine, if_neg hidle]

theorem runEngine_withHost (n : Nat) : IgnoresHost (State.runEngine n) := by
  induction n with
  | zero => exact fun _ _ => rfl
  | succ n ih =>
    intro h s
    by_cases hbusy : s.busy = true
    · have hbusy' : (withHost h s).busy = true := hbusy
      rw [State.runEngine, State.runEngine, if_pos hbusy, if_pos hbusy', engineStep_withHost h s]
      cases s.engineStep with
      | next t => exact ih h t
      | fault | refused => rfl
    · exact apply_of_branch (runEngine_idle (s := withHost h s) hbusy _) (runEngine_idle hbusy _) rfl

theorem startCall_withHost (d : Dir) : IgnoresHost (·.startCall d) := by
  intro h s
  by_cases hk : s.cfgK < 0
  · exact apply_of_branch (if_pos hk) (if_pos hk) rfl
  · exact apply_of_branch (if_neg hk) (if_neg hk) rfl

theorem outputFits_of_unbounded {s : State} (hcap : s.params.codeBytes = none) : s.outputFits = true := by
  rw [State.outputFits, hcap]

theorem outputFits_of_bounded {s : State} {k : Nat} (hcap : s.params.codeBytes = some k) :
    s.outputFits =
      decide (((State.runEngine (3 * s.rowsToEncode + 1) s.unbounded.startEncode).bitpos + 7) / 8 ≤ k) := by
  rw [State.outputFits, hcap]

theorem outputFits_withHost (h : List HostMove) (s : State) : (withHost h s).outputFits = s.outputFits := by
  have hrun : State.runEngine (3 * s.rowsToEncode + 1) (withHost h s).unbounded.startEncode =
      withHost h (State.runEngine (3 * s.rowsToEncode + 1) s.unbounded.startEncode) :=
    (congrArg _ (startCall_withHost .encode h { s.unbounded with nrows := s.rowsToEncode })).trans
      (runEngine_withHost _ h _)
  cases hcap : s.params.codeBytes with
  | none =>
    exact (outputFits_of_unbounded (s := withHost h s) hcap).trans (outputFits_of_unbounded hcap).symm
  | some k =>
    exact (outputFits_of_bounded (s := withHost h s) hcap).trans
      ((congrArg (fun t : State => decide ((t.bitpos + 7) / 8 ≤ k)) hrun).trans (outputFits_of_bounded hcap).symm)

theorem rowsFit_of_unbounded {s : State} (hcap : s.params.pixBytes = none) : s.rowsFit = true := by
  rw [State.rowsFit, hcap]

theorem rowsFit_of_bounded {s : State} {k : Nat} (hcap : s.params.pixBytes = some k) :
    s.rowsFit =
      decide ((State.runEngine (24 * s.codeBytes + 3) s.unbounded.startDecode).rowidx * s.columns ≤ k) := by
  rw [State.rowsFit, hcap]

theorem rowsFit_withHost (h : List HostMove) (s : State) : (withHost h s).rowsFit = s.rowsFit := by
  have hrun : State.runEngine (24 * s.codeBytes + 3) (withHost h s).unbounded.startDecode =
      withHost h (State.runEngine (24 * s.codeBytes + 3) s.unbounded.startDecode) :=
    (congrArg _ (startCall_withHost .decode h s.unbounded)).trans (runEngine_withHost _ h _)
  cases hcap : s.params.pixBytes with
  | none => exact (rowsFit_of_unbounded (s := withHost h s) hcap).trans (rowsFit_of_unbounded hcap).symm
  | some k =>
    exact (rowsFit_of_bounded (s := withHost h s) hcap).trans
      ((congrArg (fun t : State => decide (t.rowidx * s.columns ≤ k)) hrun).trans (rowsFit_of_bounded hcap).symm)

/-- Whether a START is admitted does not depend on the host's later moves. -/
theorem admitted_withHost {h : List HostMove} {s : State} {d : Dir} :
    (withHost h s).notAdmitted d = none ↔ s.notAdmitted d = none := by
  have hbitmap : (withHost h s).bitmapReady = s.bitmapReady := rfl
  have hstream : (withHost h s).streamReady = s.streamReady := rfl
  have hwidth : (withHost h s).widthHolds = s.widthHolds := rfl
  rw [State.notAdmitted_eq_none, State.notAdmitted_eq_none, hbitmap, hstream, hwidth, outputFits_withHost,
    rowsFit_withHost]
  rfl

end Sys2Proof.Proofs
end

section
/-! The host's side: accesses by the register map (R26 to R36, R526), `STATUS` (R28), admission (R523) and the two commands
(R521, R522). -/

namespace Sys2Proof.Proofs

open Sys2Proof.Machine

/-! ### Accesses (R526) -/

/-- A step whose next move of the host is an access is that access. -/
theorem step_access {s : State} {a : Access} {rest : List HostMove} (hhost : s.host = .access a :: rest) :
    step s = { s with host := rest }.hostAccess a := by
  unfold step State.machineStep
  rw [hhost]
  rfl

theorem step_access_idle {s : State} {a : Access} {rest : List HostMove} (hidle : s.busy = false)
    (hhost : s.host = .access a :: rest) : step s = { s with host := rest }.idleAccess a :=
  (step_access hhost).trans (if_neg (by simp [hidle]))

theorem hostAccess_readReg_busy {s : State} (hbusy : s.busy = true) :
    s.hostAccess (.readReg 1) = .next { s with hostData := s.statusWord } :=
  (if_pos hbusy).trans (if_pos rfl)

theorem hostAccess_refused {s : State} {a : Access} (hbusy : s.busy = true) (hother : a ≠ .readReg 1) :
    s.hostAccess a = .refused .accessWhileBusy :=
  (if_pos hbusy).trans (if_neg hother)

theorem idleAccess_readReg {s : State} {n : Nat} {v : Int} (hreg : s.readReg n = some v) :
    s.idleAccess (.readReg n) = .next { s with hostData := v } := by
  rw [State.idleAccess, hreg]

theorem fitsIn_succ {cap : Option Nat} {o : Nat} (hroom : ∀ k, cap = some k → o < k) : fitsIn cap (o + 1) = true := by
  cases cap with
  | none => rfl
  | some k => exact decide_eq_true (hroom k rfl)

theorem idleAccess_writeMem {s : State} {m : Space} {o : Nat} {b : Byte} (hroom : ∀ k, s.capacity m = some k → o < k) :
    s.idleAccess (.writeMem m o b) = .next (s.writeMem m o b) :=
  if_pos (fitsIn_succ hroom)

theorem idleAccess_readMem {s : State} {m : Space} {o : Nat} {b : Byte} (hroom : ∀ k, s.capacity m = some k → o < k)
    (hread : (s.mem m).read o = some b) : s.idleAccess (.readMem m o) = .next { s with hostData := b.toNat } := by
  rw [State.idleAccess, if_pos (fitsIn_succ hroom), hread]

/-- `CFG_FLAGS` takes the low four bits. -/
theorem ofInt_eq_ofNat_mod (v : Int) : BitVec.ofInt 4 v = BitVec.ofNat 4 (v % 16).toNat := by
  apply BitVec.eq_of_toNat_eq
  rw [BitVec.toNat_ofInt, BitVec.toNat_ofNat]
  omega

/-- Settles O48: register by register, and both memories. -/
theorem hostAccessRules : Obligations.HostAccessRules := by
  intro s rest
  refine ⟨fun a hbusy hhost hother => ?_, fun hbusy hhost => ?_, fun n v hidle hhost hreg => ?_,
    fun n v t hidle hhost hreg => ?_, fun o b hidle hroom hhost => ?_, fun o b hidle hroom hhost => ?_,
    fun o b hidle hroom hread hhost => ?_, fun o b hidle hroom hread hhost => ?_⟩
  · exact (step_access hhost).trans (hostAccess_refused hbusy hother)
  · exact (step_access hhost).trans (hostAccess_readReg_busy hbusy)
  · refine (step_access_idle hidle hhost).trans (idleAccess_readReg ?_)
    simp only [List.mem_cons, List.not_mem_nil, or_false, Prod.mk.injEq] at hreg
    rcases hreg with ⟨rfl, rfl⟩ | ⟨rfl, rfl⟩ | ⟨rfl, rfl⟩ | ⟨rfl, rfl⟩ | ⟨rfl, rfl⟩ | ⟨rfl, rfl⟩ | ⟨rfl, rfl⟩ |
      ⟨rfl, rfl⟩ | ⟨rfl, rfl⟩ | ⟨rfl, rfl⟩ <;> rfl
  · refine (step_access_idle hidle hhost).trans ?_
    rw [← ofInt_eq_ofNat_mod] at hreg
    simp only [List.mem_cons, List.not_mem_nil, or_false, Prod.mk.injEq] at hreg
    rcases hreg with ⟨rfl, rfl⟩ | ⟨rfl, rfl⟩ | ⟨rfl, rfl⟩ | ⟨rfl, rfl⟩ | ⟨rfl, rfl⟩ | ⟨rfl, rfl⟩ | ⟨rfl, rfl⟩ |
      ⟨rfl, rfl⟩ | ⟨rfl, rfl⟩ <;> rfl
  · exact (step_access_idle hidle hhost).trans (idleAccess_writeMem hroom)
  · exact (step_access_idle hidle hhost).trans (idleAccess_writeMem hroom)
  · exact (step_access_idle hidle hhost).trans (idleAccess_readMem hroom hread)
  · exact (step_access_idle hidle hhost).trans (idleAccess_readMem hroom hread)

/-- The value a register keeps of what is written to it (R30). -/
def keptValue (n : Nat) (v : Int) : Int := if n = 3 then v % 16 else v

theorem toNat_ofInt_flags (v : Int) : ((BitVec.ofInt 4 v).toNat : Int) = v % 16 := by
  rw [BitVec.toNat_ofInt]
  omega

/-- A write of a writable register: what it then holds, and that nothing else changes. -/
theorem writeReg_spec (s : State) {n : Nat} (v : Int) (hlow : 2 ≤ n) (hhigh : n ≤ 8) :
    ∃ t : State, s.writeReg n v = .next t ∧ t.readReg n = some (keptValue n v) ∧
      (∀ k, k ≠ n → t.readReg k = s.readReg k) ∧
      t = { s with
        cfgK := t.cfgK, cfgFlags := t.cfgFlags, cfgDamaged := t.cfgDamaged, cfgColumns := t.cfgColumns
        cfgRows := t.cfgRows, codeLen := t.codeLen, pixRows := t.pixRows } := by
  by_cases hflags : n = 3
  · subst hflags
    refine ⟨_, rfl, congrArg some (toNat_ofInt_flags v), fun k hk => ?_, rfl⟩
    unfold State.readReg
    split <;> simp_all [State.statusWord]
  · rw [keptValue, if_neg hflags]
    obtain rfl | rfl | rfl | rfl | rfl | rfl : n = 2 ∨ n = 4 ∨ n = 5 ∨ n = 6 ∨ n = 7 ∨ n = 8 := by omega
    all_goals
      refine ⟨_, rfl, rfl, fun k hk => ?_, rfl⟩
      unfold State.readReg
      split <;> simp_all [State.statusWord]

/-- Settles O49: the write, then the read. -/
theorem writtenRegistersReadBack : Obligations.WrittenRegistersReadBack := by
  intro s n v rest hidle hlow hhigh hhost
  obtain ⟨t, hwrite, hvalue, hothers, hframe⟩ :=
    writeReg_spec { s with host := .access (.readReg n) :: rest } v hlow hhigh
  have hwritten : step s = .next t := (step_access_idle hidle hhost).trans hwrite
  have hread : step t = .next { t with host := rest, hostData := keptValue n v } := by
    refine (step_access_idle ?_ ?_).trans (idleAccess_readReg (s := { t with host := rest }) hvalue)
    · rw [hframe]; exact hidle
    · rw [hframe]
  refine ⟨{ t with host := rest, hostData := keptValue n v }, ?_, rfl, hothers, ?_⟩
  · rw [run, hwritten]
    dsimp only
    rw [run, hread]
    rfl
  · rw [hframe]

/-! ### `STATUS` (R28) -/

/-- Settles O50: by the codes of the fields. -/
theorem statusWordFields : Obligations.StatusWordFields := by
  intro s f e hf he
  have hfcode : s.fstate.code = f ∧ f < 8 := by
    simp only [List.mem_cons, List.not_mem_nil, or_false, Prod.mk.injEq] at hf
    rcases hf with ⟨h, rfl⟩ | ⟨h, rfl⟩ | ⟨h, rfl⟩ | ⟨h, rfl⟩ | ⟨h, rfl⟩ <;> rw [h] <;> decide
  have hecode : s.err.code = e := by
    simp only [List.mem_cons, List.not_mem_nil, or_false, Prod.mk.injEq] at he
    rcases he with ⟨h, rfl⟩ | ⟨h, rfl⟩ | ⟨h, rfl⟩ | ⟨h, rfl⟩ | ⟨h, rfl⟩ | ⟨h, rfl⟩ | ⟨h, rfl⟩ | ⟨h, rfl⟩ <;>
      rw [h] <;> rfl
  have hbusy : s.busy.toNat = if s.busy then 1 else 0 := by cases s.busy <;> rfl
  have hdone : s.done.toNat = if s.done then 1 else 0 := by cases s.done <;> rfl
  have hdir : s.dirl.code = if s.dirl = .decode then 1 else 0 := by cases s.dirl <;> rfl
  obtain ⟨hfcode, hfsmall⟩ := hfcode
  rw [State.statusWord, hfcode, hecode, hbusy, hdone, hdir]
  split <;> split <;> split <;> omega

/-! ### Admission (R523) -/

theorem isSome_toColour_iff {b : Bool} {v : Byte} : (toColour b v).isSome = true ↔ v = 0x00#8 ∨ v = 0x01#8 := by
  constructor
  · intro hsome
    obtain ⟨c, hcolour⟩ := Option.isSome_iff_exists.mp hsome
    rw [toColour_eq_some_iff.mp hcolour]
    exact toByte_eq_zero_or_one b c
  · rintro (rfl | rfl) <;> cases b <;> rfl

/-- A bitmap's rows are written and hold sentinels only. -/
theorem bitmapCovers_iff {s : State} {n : Nat} :
    s.bitmapCovers n = true ↔
      ∀ a, a < n * s.columns → s.pix.read a = some 0x00#8 ∨ s.pix.read a = some 0x01#8 := by
  unfold State.bitmapCovers
  split
  case h_1 hnone =>
    refine ⟨fun h => by simp at h, fun hall => ?_⟩
    have hsome : (s.pix.readBlock 0 (n * s.columns)).isSome := Memory.readBlock_isSome fun k hk => by
      rw [Nat.zero_add]
      obtain h | h := hall k hk <;> rw [h] <;> rfl
    rw [hnone] at hsome
    cases hsome
  case h_2 bytes hbytes =>
    obtain ⟨hlength, hread⟩ := Memory.readBlock_eq_some hbytes
    simp only [List.all_eq_true, isSome_toColour_iff]
    constructor
    · intro hall a ha
      have hget := hread a ha
      rw [Nat.zero_add, List.getElem?_eq_getElem (hlength.symm ▸ ha)] at hget
      rw [hget, Option.some.injEq, Option.some.injEq]
      exact hall _ (List.getElem_mem _)
    · intro hall v hv
      obtain ⟨a, ha, rfl⟩ := List.getElem_of_mem hv
      have hget := hread a (hlength ▸ ha)
      rw [Nat.zero_add, List.getElem?_eq_getElem ha] at hget
      simpa [hget] using hall a (hlength ▸ ha)

theorem bitmapReady_iff {s : State} :
    s.bitmapReady = true ↔
      0 ≤ s.pixRows ∧ fitsIn s.params.pixBytes (s.suppliedRows * s.columns) = true ∧
        s.bitmapCovers s.suppliedRows = true := by
  have hsplit : s.bitmapReady = (decide (0 ≤ s.pixRows) && fitsIn s.params.pixBytes (s.suppliedRows * s.columns) &&
    s.bitmapCovers s.suppliedRows) := rfl
  rw [hsplit, Bool.and_eq_true, Bool.and_eq_true, decide_eq_true_iff, and_assoc]

theorem streamReady_iff {s : State} :
    s.streamReady = true ↔
      0 ≤ s.codeLen ∧ fitsIn s.params.codeBytes s.codeBytes = true ∧ s.code.writtenBelow s.codeBytes = true := by
  rw [State.streamReady, Bool.and_eq_true, Bool.and_eq_true, decide_eq_true_iff, and_assoc]

/-- With unbounded memories and registers (e), (g) and (h) hold of themselves. -/
theorem unbounded_fits {s : State} (hparams : s.params = ⟨none, none, none⟩) :
    s.widthHolds = true ∧ s.outputFits = true ∧ s.rowsFit = true := by
  unfold State.widthHolds State.outputFits State.rowsFit
  rw [hparams]
  exact ⟨rfl, rfl, rfl⟩

theorem supplied_cells {s : State} (hcolumns : 1 ≤ s.cfgColumns) (hrows : 0 ≤ s.pixRows) :
    ((s.suppliedRows * s.columns : Nat) : Int) = s.pixRows * s.cfgColumns := by
  rw [Nat.cast_mul, State.suppliedRows, State.columns, Int.toNat_of_nonneg hrows,
    Int.toNat_of_nonneg (Int.le_trans (by decide) hcolumns)]

theorem admitted_encode_iff {s : State} (hparams : s.params = ⟨none, none, none⟩) :
    s.notAdmitted .encode = none ↔ s.busy = false ∧ 1 ≤ s.cfgColumns ∧ 0 ≤ s.cfgRows ∧ 0 ≤ s.pixRows ∧
      ∀ a : Nat, (a : Int) < s.pixRows * s.cfgColumns →
        s.pix.read a = some 0x00#8 ∨ s.pix.read a = some 0x01#8 := by
  obtain ⟨hwidth, hfits, -⟩ := unbounded_fits hparams
  have hroom : fitsIn s.params.pixBytes (s.suppliedRows * s.columns) = true := by rw [hparams]; rfl
  simp only [State.notAdmitted_eq_none, hwidth, hfits, bitmapReady_iff, hroom, bitmapCovers_iff, true_and, and_true]
  refine and_congr_right fun _ => and_congr_right fun hcolumns => and_congr_right fun _ =>
    and_congr_right fun hrows => forall_congr' fun a => ?_
  rw [← supplied_cells hcolumns hrows, Nat.cast_lt]

theorem admitted_decode_iff {s : State} (hparams : s.params = ⟨none, none, none⟩) :
    s.notAdmitted .decode = none ↔ s.busy = false ∧ 1 ≤ s.cfgColumns ∧ 0 ≤ s.cfgRows ∧ 0 ≤ s.codeLen ∧
      Spec.Written s.code s.codeLen.toNat := by
  obtain ⟨hwidth, -, hfits⟩ := unbounded_fits hparams
  have hroom : fitsIn s.params.codeBytes s.codeBytes = true := by rw [hparams]; rfl
  simp only [State.notAdmitted_eq_none, hwidth, hfits, streamReady_iff, hroom, Memory.writtenBelow_iff, true_and,
    and_true]
  rfl

/-! ### START -/

/-- The state a START in a direction begins with. -/
def startedState (s : State) : Dir → State
  | .encode => s.startEncode
  | .decode => s.startDecode

theorem start_of_admitted {s : State} {d : Dir} (hadmitted : s.notAdmitted d = none) :
    s.start d = .next (startedState s d) := by
  rw [State.start.eq_def, hadmitted]
  cases d <;> rfl

theorem start_of_not_admitted {s : State} {d : Dir} {why : Admission} (hwhy : s.notAdmitted d = some why) :
    s.start d = .refused (.startNotAdmitted why) := by
  rw [State.start.eq_def, hwhy]

theorem start_is_step_iff {s : State} {d : Dir} : (∃ t, s.start d = .next t) ↔ s.notAdmitted d = none :=
  ⟨fun ⟨_, hstart⟩ => (State.start_next hstart).1, fun hadmitted => ⟨_, start_of_admitted hadmitted⟩⟩

/-- The direction a write of `CTRL` names (R27). -/
def ctrlDir (v : Int) : Dir := if 2 ≤ v % 4 then .decode else .encode

theorem step_start {s : State} {v : Int} {rest : List HostMove} (hidle : s.busy = false)
    (hhost : s.host = .access (.writeReg 0 v) :: rest) (hv : v % 2 = 1) :
    step s = { s with host := rest }.start (ctrlDir v) :=
  (step_access_idle hidle hhost).trans (writeCtrl_of_odd hv)

theorem step_start_busy {s : State} {v : Int} {rest : List HostMove} (hbusy : s.busy = true)
    (hhost : s.host = .access (.writeReg 0 v) :: rest) : step s = .refused .accessWhileBusy :=
  (step_access hhost).trans (hostAccess_refused hbusy nofun)

/-- A write of `CTRL` with START is a step exactly when the call is admitted. -/
theorem start_write_is_step_iff {s : State} {v : Int} {rest : List HostMove}
    (hhost : s.host = .access (.writeReg 0 v) :: rest) (hv : v % 2 = 1) :
    (∃ t, step s = .next t) ↔ { s with host := rest }.notAdmitted (ctrlDir v) = none := by
  obtain hbusy | hidle := Bool.eq_false_or_eq_true s.busy
  · rw [step_start_busy hbusy hhost, State.notAdmitted_eq_none]
    constructor
    · rintro ⟨t, ht⟩
      cases ht
    · rintro ⟨hidle, -⟩
      exact Bool.noConfusion (hbusy.symm.trans hidle)
  · rw [step_start hidle hhost hv, start_is_step_iff]

theorem start_write_refused {s : State} {v : Int} {rest : List HostMove}
    (hhost : s.host = .access (.writeReg 0 v) :: rest) (hnone : ¬ ∃ t, step s = .next t) :
    ∃ r, step s = .refused r := by
  cases hbusy : s.busy with
  | true => exact ⟨_, step_start_busy hbusy hhost⟩
  | false =>
    obtain hv | hv := Int.emod_two_eq v
    · exact absurd ⟨_, (step_access_idle hbusy hhost).trans (writeCtrl_of_even hv)⟩ hnone
    · cases hadmitted : { s with host := rest }.notAdmitted (ctrlDir v) with
      | none => exact absurd ((start_write_is_step_iff hhost hv).mpr hadmitted) hnone
      | some why => exact ⟨_, (step_start hbusy hhost hv).trans (start_of_not_admitted hadmitted)⟩

theorem ctrlDir_of_one {v : Int} (hv : v % 4 = 1) : v % 2 = 1 ∧ ctrlDir v = .encode :=
  ⟨by omega, if_neg (by omega)⟩

theorem ctrlDir_of_three {v : Int} (hv : v % 4 = 3) : v % 2 = 1 ∧ ctrlDir v = .decode :=
  ⟨by omega, if_pos (by omega)⟩

/-- Settles O51: with the default parameters only (a) to (d) and (f) are left to check. -/
theorem startAdmission : Obligations.StartAdmission := by
  refine ⟨fun s v rest hidle hhost hv => (step_access_idle hidle hhost).trans (writeCtrl_of_even hv),
    fun s v rest hparams hhost => ⟨fun hv => ?_, fun hv => ?_, start_write_refused hhost⟩⟩
  · obtain ⟨hodd, hdir⟩ := ctrlDir_of_one hv
    rw [start_write_is_step_iff hhost hodd, hdir]
    exact admitted_encode_iff hparams
  · obtain ⟨hodd, hdir⟩ := ctrlDir_of_three hv
    rw [start_write_is_step_iff hhost hodd, hdir]
    exact admitted_decode_iff hparams

/-! ### The two commands (R521, R522) -/

/-- The cells of the reference line a call starts with. -/
theorem getElem?_whiteReference (s : State) (c : Nat) :
    s.whiteReference.ref[c]? = if s.cfgK < 0 ∧ (c : Int) < s.cfgColumns then some .white else s.ref[c]? := by
  unfold State.whiteReference
  by_cases hk : s.cfgK < 0
  · rw [if_pos hk]
    have hcells : (c : Int) < s.cfgColumns ↔ c < s.columns := by rw [State.columns, Int.lt_toNat]
    simp only [getElem?_overwrite, List.length_replicate, hk, true_and, hcells]
    refine ite_congr rfl (fun hlt => ?_) fun _ => rfl
    rw [List.getElem?_replicate, if_pos hlt]
  · rw [if_neg hk, if_neg fun h => hk h.1]

theorem whiteReference_frame (s : State) : s.whiteReference = { s with ref := s.whiteReference.ref } := by
  unfold State.whiteReference
  split <;> rfl

theorem startCall_frame (s : State) (d : Dir) :
    s.startCall d = { s with
      dirl := d, err := .none, done := false, busy := true, bitpos := 0, rowidx := 0, runacc := 0
      fstate := .awaitingSync, ref := (s.startCall d).ref, hphase := (s.startCall d).hphase } := by
  rw [State.startCall_hphase]
  exact whiteReference_frame _

theorem getElem?_startCall_ref (s : State) (d : Dir) (c : Nat) :
    (s.startCall d).ref[c]? = if s.cfgK < 0 ∧ (c : Int) < s.cfgColumns then some .white else s.ref[c]? :=
  getElem?_whiteReference _ c

/-- `NROWS` as R521 writes it. -/
theorem rowsToEncode_eq (s : State) :
    s.rowsToEncode = (if 0 < s.cfgRows then min s.cfgRows s.pixRows else s.pixRows).toNat := by
  unfold State.rowsToEncode State.rows State.suppliedRows
  split <;> omega

/-- An admitted START is the state of its command. -/
theorem step_admitted {s : State} {v : Int} {rest : List HostMove} (hhost : s.host = .access (.writeReg 0 v) :: rest)
    (hodd : v % 2 = 1) (hadmitted : s.notAdmitted (ctrlDir v) = none) :
    step s = .next (startedState { s with host := rest } (ctrlDir v)) := by
  obtain ⟨hidle, -⟩ := State.notAdmitted_eq_none.mp hadmitted
  exact (step_start hidle hhost hodd).trans
    (start_of_admitted (s := withHost rest s) (admitted_withHost.mpr hadmitted))

/-- Settles O52: what the command sets. -/
theorem startEncodeState : Obligations.StartEncodeState := by
  intro s v rest hhost hv hadmitted
  obtain ⟨hodd, hdir⟩ := ctrlDir_of_one hv
  have hstep := step_admitted hhost hodd (hdir ▸ hadmitted)
  rw [hdir] at hstep
  refine ⟨_, hstep, ?_, fun c => getElem?_startCall_ref _ _ c⟩
  rw [← rowsToEncode_eq]
  exact startCall_frame { s with host := rest, nrows := s.rowsToEncode } .encode

/-- Settles O53: what the command sets. -/
theorem startDecodeState : Obligations.StartDecodeState := by
  intro s v rest hhost hv hadmitted
  obtain ⟨hodd, hdir⟩ := ctrlDir_of_three hv
  have hstep := step_admitted hhost hodd (hdir ▸ hadmitted)
  rw [hdir] at hstep
  exact ⟨_, hstep, startCall_frame { s with host := rest } .decode, fun c => getElem?_startCall_ref _ _ c⟩

end Sys2Proof.Proofs
end

section
/-! The invariant of R44 direction by direction: what `Sound` says of a running call, and that the engine's moves keep
it. -/

namespace Sys2Proof.Proofs

open Sys2Proof.Machine

/-! ### A running call -/

/-- R44 (c) to (e): the position of the decoder inside a row. -/
structure InRowAt (s : State) : Prop where
  inside : s.col ≤ s.columns
  drawn : s.col ≤ s.cur.length
  oneD : s.rowKind = .oneD → s.col < s.columns
  control : s.hphase = .none → s.rowKind = .twoD → -1 ≤ s.a0 ∧ s.a0 < s.columns ∧ s.col = s.a0.toNat
  run : (s.hphase = .none → s.rowKind = .oneD) → s.col + s.runacc ≤ s.columns
  pair : s.hphase ≠ .none → s.rowKind = .twoD

/-- The frame states of a running decode call, with what `Sound` asks for in each. -/
inductive DecodePhase (s : State) : Prop
  | boundary (hfstate : s.fstate = .awaitingSync) (hphase : s.hphase = .none)
  | row (hfstate : s.fstate = .decodingRow) (hat : InRowAt s)
  | complete (hfstate : s.fstate = .rowComplete) (hphase : s.hphase = .none) (hwhole : s.columns ≤ s.cur.length)

/-- The frame states of a running encode call, with what `Sound` asks for in each. -/
inductive EncodePhase (s : State) : Prop
  | boundary (hfstate : s.fstate = .awaitingSync) (hrows : s.rowidx ≤ s.nrows)
  | row (hfstate : s.fstate = .decodingRow) (hrows : s.rowidx < s.nrows) (hwhole : s.columns ≤ s.cur.length)
  | complete (hfstate : s.fstate = .rowComplete) (hrows : s.rowidx < s.nrows) (hwhole : s.columns ≤ s.cur.length)

/-- What every running call keeps: no error, an admitted configuration, and a reference line where a row needs one. -/
structure Running (d : Dir) (s : State) : Prop where
  busy : s.busy = true
  dir : s.dirl = d
  done : s.done = false
  err : s.err = .none
  configured : 1 ≤ s.cfgColumns ∧ 0 ≤ s.cfgRows
  reference : 0 < s.rowidx ∨ s.cfgK < 0 → s.columns ≤ s.ref.length

/-- A running decode call. -/
structure DecodeSound (s : State) : Prop where
  running : Running .decode s
  written : Spec.Written s.code s.codeBytes
  inside : s.bitpos ≤ 8 * s.codeBytes
  phase : DecodePhase s

/-- A running encode call. -/
structure EncodeSound (s : State) : Prop where
  running : Running .encode s
  single : s.hphase = .none
  bitmap : s.bitmapCovers s.nrows = true
  clean : Spec.CleanTail s.code s.bitpos
  phase : EncodePhase s

/-- A call that is over: only a decode call ends with an error. -/
structure Stopped (s : State) : Prop where
  idle : s.busy = false
  done : s.done = true
  fstate : s.fstate = .terminated
  single : s.hphase = .none
  err : s.err ≠ .none → s.dirl = .decode

/-! ### The two forms of the invariant -/

/-- Without a call there is nothing to keep but `STATUS` and the memories. -/
theorem sound_of_idle {s : State} (hmemories : s.MemoriesCanonical) (hstatus : s.StatusConsistent)
    (hidle : s.busy = false) (hsingle : s.hphase = .none) : s.Sound := by
  have hnobusy : s.busy ≠ true := by rw [hidle]; decide
  exact ⟨hmemories, hstatus, fun h => absurd h hnobusy, fun h => absurd hsingle h, fun h => absurd h hnobusy,
    fun h => absurd h hnobusy, fun h => absurd h hnobusy, fun h => absurd h hnobusy, fun h => absurd h hnobusy,
    fun h => absurd h hnobusy⟩

theorem sound_of_stopped {s : State} (hmemories : s.MemoriesCanonical) (hs : Stopped s) : s.Sound := by
  refine sound_of_idle hmemories ⟨?_, ?_, fun herr => ⟨hs.fstate, hs.err herr⟩⟩ hs.idle hs.single
  · rw [hs.idle, hs.fstate]; rfl
  · rw [hs.done, hs.fstate]; rfl

/-- `STATUS` during a call. -/
theorem status_of_running {s : State} {d : Dir} (hs : Running d s) (hfstate : s.fstate.running = true) :
    s.StatusConsistent := by
  refine ⟨hs.busy.trans hfstate.symm, ?_, fun herr => absurd hs.err herr⟩
  rw [hs.done]
  cases h : s.fstate with
  | awaitingSync | decodingRow | rowComplete => rfl
  | idle | terminated => rw [h] at hfstate; cases hfstate

theorem running_of_sound {s : State} {d : Dir} (hs : s.Sound) (hbusy : s.busy = true) (hdir : s.dirl = d) :
    Running d s := by
  obtain ⟨hrunning, hdone, herr⟩ := hs.status
  have hfstate : s.fstate ≠ .terminated := fun h => by rw [hbusy, h] at hrunning; cases hrunning
  exact ⟨hbusy, hdir, by rw [hdone, decide_eq_false hfstate],
    by_contra fun h => hfstate (herr h).1, hs.configured hbusy, hs.reference hbusy⟩

theorem cleanTail_iff {m : Memory} {p : Nat} :
    Spec.CleanTail m p ↔ ∀ q, p ≤ q → q < alignUp p → bitAt m q = some false := by
  unfold alignUp
  constructor
  · intro hclean q hle hlt
    obtain ⟨j, rfl⟩ := Nat.exists_eq_add_of_le hle
    exact hclean j (by omega) hlt
  · intro hclean j _ hj
    exact hclean (p + j) (Nat.le_add_right p j) hj

theorem context_eq_ctrl2d_iff {s : State} (hbusy : s.busy = true) (hdir : s.dirl = .decode)
    (hfstate : s.fstate = .decodingRow) : s.context = some .ctrl2d ↔ s.hphase = .none ∧ s.rowKind = .twoD := by
  simp [State.context_ctrl2d, hbusy, hdir, hfstate]

theorem oneD_or_twoD (k : RowKind) : k = .oneD ∨ k = .twoD := by
  cases k with
  | oneD => exact .inl rfl
  | twoD => exact .inr rfl

/-- No control code comes next exactly when a run code does. -/
theorem readsRun_iff_not_control {s : State} :
    (s.hphase = .none → s.rowKind = .oneD) ↔ ¬ (s.hphase = .none ∧ s.rowKind = .twoD) := by
  obtain h | h := oneD_or_twoD s.rowKind <;> simp [h]

theorem decodeSound_of_sound {s : State} (hs : s.Sound) (hbusy : s.busy = true) (hdir : s.dirl = .decode) :
    DecodeSound s := by
  obtain ⟨hwritten, hinside⟩ := hs.stream hbusy hdir
  have hsingle : s.fstate ≠ .decodingRow → s.hphase = .none := fun hfstate =>
    by_contra fun hpair => hfstate (hs.pair hpair).2.2.1
  refine ⟨running_of_sound hs hbusy hdir, (Memory.writtenBelow_iff _ _).mp hwritten, hinside, ?_⟩
  cases hfstate : s.fstate with
  | awaitingSync => exact .boundary hfstate (hsingle (by rw [hfstate]; decide))
  | decodingRow =>
    obtain ⟨hcol, hdrawn, hone, hcontrol, hrun⟩ := hs.position hbusy hdir hfstate
    rw [Ne, context_eq_ctrl2d_iff hbusy hdir hfstate, ← readsRun_iff_not_control] at hrun
    rw [context_eq_ctrl2d_iff hbusy hdir hfstate] at hcontrol
    exact .row hfstate ⟨hcol, hdrawn, hone, fun hphase hkind => hcontrol ⟨hphase, hkind⟩, hrun,
      fun hpair => (hs.pair hpair).2.2.2⟩
  | rowComplete => exact .complete hfstate (hsingle (by rw [hfstate]; decide)) (hs.wholeRow hbusy (.inl hfstate))
  | idle | terminated =>
    have hrunning := hs.status.1
    rw [hbusy, hfstate] at hrunning
    cases hrunning

theorem sound_of_decodeSound {s : State} (hmemories : s.MemoriesCanonical) (hs : DecodeSound s) : s.Sound := by
  obtain ⟨hrunning, hwritten, hinside, hphase⟩ := hs
  have hnoencode : s.dirl ≠ .encode := by rw [hrunning.dir]; decide
  have hstream : s.code.writtenBelow s.codeBytes = true ∧ s.bitpos ≤ 8 * s.codeBytes :=
    ⟨(Memory.writtenBelow_iff _ _).mpr hwritten, hinside⟩
  cases hphase with
  | boundary hfstate hsingle =>
    have hcomplete : s.fstate ≠ .rowComplete := by rw [hfstate]; decide
    have hrow : s.fstate ≠ .decodingRow := by rw [hfstate]; decide
    exact ⟨hmemories, status_of_running hrunning (by rw [hfstate]; rfl), fun _ => hrunning.configured,
      fun hpair => absurd hsingle hpair, fun _ => hrunning.reference, fun _ _ => hstream,
      fun _ h => h.elim (absurd · hcomplete) fun h => absurd h.1 hnoencode, fun _ _ h => absurd h hrow,
      fun _ h => absurd h hnoencode, fun _ h => absurd h hnoencode⟩
  | row hfstate hat =>
    have hcomplete : s.fstate ≠ .rowComplete := by rw [hfstate]; decide
    refine ⟨hmemories, status_of_running hrunning (by rw [hfstate]; rfl), fun _ => hrunning.configured,
      fun hpair => ⟨hrunning.busy, hrunning.dir, hfstate, hat.pair hpair⟩, fun _ => hrunning.reference,
      fun _ _ => hstream, fun _ h => h.elim (absurd · hcomplete) fun h => absurd h.1 hnoencode,
      fun _ _ _ => ⟨hat.inside, hat.drawn, hat.oneD, ?_, ?_⟩, fun _ h => absurd h hnoencode,
      fun _ h => absurd h hnoencode⟩
    · rw [context_eq_ctrl2d_iff hrunning.busy hrunning.dir hfstate]
      exact fun ⟨hphase, hkind⟩ => hat.control hphase hkind
    · rw [Ne, context_eq_ctrl2d_iff hrunning.busy hrunning.dir hfstate, ← readsRun_iff_not_control]
      exact hat.run
  | complete hfstate hsingle hwhole =>
    have hrow : s.fstate ≠ .decodingRow := by rw [hfstate]; decide
    exact ⟨hmemories, status_of_running hrunning (by rw [hfstate]; rfl), fun _ => hrunning.configured,
      fun hpair => absurd hsingle hpair, fun _ => hrunning.reference, fun _ _ => hstream, fun _ _ => hwhole,
      fun _ _ h => absurd h hrow, fun _ h => absurd h hnoencode, fun _ h => absurd h hnoencode⟩

theorem encodeSound_of_sound {s : State} (hs : s.Sound) (hbusy : s.busy = true) (hdir : s.dirl = .encode) :
    EncodeSound s := by
  obtain ⟨hrows, hmore, hbitmap⟩ := hs.bitmap hbusy hdir
  have hsingle : s.hphase = .none := by_contra fun hpair => by
    have hdecode := (hs.pair hpair).2.1
    rw [hdir] at hdecode
    cases hdecode
  refine ⟨running_of_sound hs hbusy hdir, hsingle, hbitmap, cleanTail_iff.mpr (hs.tail hbusy hdir), ?_⟩
  cases hfstate : s.fstate with
  | awaitingSync => exact .boundary hfstate hrows
  | decodingRow =>
    exact .row hfstate (hmore (by rw [hfstate]; decide)) (hs.wholeRow hbusy (.inr ⟨hdir, hfstate⟩))
  | rowComplete => exact .complete hfstate (hmore (by rw [hfstate]; decide)) (hs.wholeRow hbusy (.inl hfstate))
  | idle | terminated =>
    have hrunning := hs.status.1
    rw [hbusy, hfstate] at hrunning
    cases hrunning

theorem sound_of_encodeSound {s : State} (hmemories : s.MemoriesCanonical) (hs : EncodeSound s) : s.Sound := by
  obtain ⟨hrunning, hsingle, hbitmap, hclean, hphase⟩ := hs
  have hnodecode : s.dirl ≠ .decode := by rw [hrunning.dir]; decide
  have hstatus : s.fstate.running = true ∧ s.rowidx ≤ s.nrows ∧ (s.fstate ≠ .awaitingSync → s.rowidx < s.nrows) ∧
      (s.fstate = .rowComplete ∨ s.dirl = .encode ∧ s.fstate = .decodingRow → s.columns ≤ s.cur.length) := by
    cases hphase with
    | boundary hfstate hrows => simp [hfstate, FState.running, hrows]
    | row hfstate hrows hwhole => simp [hfstate, FState.running, hrows, hwhole, hrows.le]
    | complete hfstate hrows hwhole => simp [hfstate, FState.running, hrows, hwhole, hrows.le]
  obtain ⟨hfstate, hrows, hmore, hwhole⟩ := hstatus
  exact ⟨hmemories, status_of_running hrunning hfstate, fun _ => hrunning.configured,
    fun hpair => absurd hsingle hpair, fun _ => hrunning.reference, fun _ h => absurd h hnodecode, fun _ => hwhole,
    fun _ h => absurd h hnodecode, fun _ _ => ⟨hrows, hmore, hbitmap⟩, fun _ _ => cleanTail_iff.mp hclean⟩

end Sys2Proof.Proofs
end

section
/-! The engine's moves keep the invariant of their direction, or end the call. -/

namespace Sys2Proof.Proofs

open Sys2Proof.Machine

/-! ### The lines -/

theorem le_length_overwrite (l : Line) {row : List Colour} {w : Nat} (hrow : w ≤ row.length) :
    w ≤ (l.overwrite row).length := by
  rw [Line.overwrite, List.length_append]
  omega

/-- The reference line behind a whole row is whole. -/
theorem le_length_closeRow_ref {s : State} (hwhole : s.columns ≤ s.cur.length) :
    s.columns ≤ s.closeRow.ref.length := by
  rw [State.closeRow_ref]
  exact le_length_overwrite _ (List.length_take_of_le hwhole).ge

theorem rowKind_twoD_iff {s : State} : s.rowKind = .twoD ↔ ¬ Spec.RowIs1D s.cfgK s.rowidx := by
  have hone : s.rowKind = .oneD ↔ Spec.RowIs1D s.cfgK s.rowidx := rowKind_eq_oneD_iff
  rw [← hone]
  obtain h | h := oneD_or_twoD s.rowKind <;> simp [h]

/-- A 2D row has a reference line: it is not the first row of a G3 call. -/
theorem reference_of_twoD {s : State} {d : Dir} (hs : Running d s) (hkind : s.rowKind = .twoD) :
    s.columns ≤ s.ref.length := by
  refine hs.reference ?_
  have htwo := rowKind_twoD_iff.mp hkind
  by_contra hfirst
  refine htwo ?_
  obtain hzero | hpos := (show 0 ≤ s.cfgK by omega).eq_or_lt
  · exact .inl hzero.symm
  · have hrow : s.rowidx = 0 := by omega
    exact .inr ⟨hpos, by rw [hrow]; exact Int.zero_emod _⟩

/-! ### Inside a row -/

/-- A row whose cells are drawn up to `COL` goes on or is complete. -/
theorem phase_of_drawn {t : State} (hinside : t.col ≤ t.columns) (hdrawn : t.col ≤ t.cur.length)
    (hsingle : t.hphase = .none) (hrun : t.rowKind = .oneD → t.runacc = 0)
    (hcontrol : t.rowKind = .twoD → t.a0 = (t.col : Nat))
    (hfstate : t.fstate = if t.columns ≤ t.col then .rowComplete else .decodingRow) : DecodePhase t := by
  by_cases hend : t.columns ≤ t.col
  · rw [if_pos hend] at hfstate
    exact .complete hfstate hsingle (hend.trans hdrawn)
  · rw [if_neg hend] at hfstate
    refine .row hfstate ⟨hinside, hdrawn, fun _ => not_le.mp hend, fun _ hkind => ?_, fun hkind => ?_,
      fun hpair => absurd hsingle hpair⟩
    · rw [hcontrol hkind]
      omega
    · rw [hrun (hkind hsingle)]
      exact hinside

theorem phase_of_terminal {s : State} {n r : Nat} (hfstate : s.fstate = .decodingRow)
    (hreads : Spec.ReadsRun s.color s) (hrange : s.col + s.runacc + r ≤ s.columns) (hat : InRowAt s) :
    DecodePhase ((s.advance n).terminalAction r) := by
  have hcell : s.col + (s.runacc + r) ≤ s.columns := by omega
  have hdrawn := le_length_fill s.color (Nat.le_add_right s.col (s.runacc + r)) hat.drawn
  have hend : (if s.columns ≤ s.col + (s.runacc + r) then FState.rowComplete else s.fstate) =
      if s.columns ≤ s.col + (s.runacc + r) then .rowComplete else .decodingRow := by rw [hfstate]
  cases hphase : s.hphase with
  | none =>
    obtain ⟨-, -, hone⟩ := hreads
    have hnotwo : s.rowKind ≠ .twoD := fun htwo => rowKind_twoD_iff.mp htwo (hone hphase)
    rw [State.terminalAction_none (s.advance n) r hphase]
    exact phase_of_drawn hcell hdrawn hphase (fun _ => rfl) (fun htwo => absurd htwo hnotwo) hend
  | first =>
    have htwo : s.rowKind = .twoD := hat.pair (by rw [hphase]; decide)
    rw [State.terminalAction_first (s.advance n) r hphase]
    refine .row hfstate ⟨hcell, hdrawn, fun hone => ?_, nofun, fun _ => hcell, fun _ => htwo⟩
    rw [show s.rowKind = .oneD from hone] at htwo
    cases htwo
  | second =>
    rw [State.terminalAction_second (s.advance n) r hphase]
    exact phase_of_drawn hcell hdrawn rfl (fun _ => rfl) (fun _ => rfl) hend

theorem phase_of_makeup {s : State} {n r : Nat} (hfstate : s.fstate = .decodingRow)
    (hrange : s.col + s.runacc + r ≤ s.columns) (hat : InRowAt s) :
    DecodePhase ((s.advance n).makeupAction r) := by
  refine .row hfstate ⟨hat.inside, hat.drawn, hat.oneD, hat.control, fun _ => ?_, hat.pair⟩
  change s.col + (s.runacc + r) ≤ s.columns
  omega

section
variable {s : State} {n : Nat} (hreads : Spec.ReadsControl s) (hat : InRowAt s)
include hreads hat

/-- Where a control code is read, the decoder stands at `A0`. -/
theorem at_control : s.hphase = .none ∧ s.rowKind = .twoD ∧ -1 ≤ s.a0 ∧ s.a0 < s.columns ∧ s.col = s.a0.toNat := by
  obtain ⟨-, hsingle, htwo⟩ := hreads
  have hkind := rowKind_twoD_iff.mpr htwo
  exact ⟨hsingle, hkind, hat.control hsingle hkind⟩

theorem phase_of_pass (hwhole : s.columns ≤ s.ref.length) : DecodePhase (s.passAction n) := by
  have ⟨⟨_, _, hfstate⟩, _⟩ := hreads
  obtain ⟨hsingle, hkind, hleft, hopen, hcol⟩ := at_control hreads hat
  obtain ⟨hb1, hb12, hb2⟩ := b1_b2_spec hwhole hopen
  have hone : s.rowKind ≠ .oneD := by rw [hkind]; decide
  have hforward : s.col ≤ s.b2 := by omega
  rw [State.passAction_eq]
  refine phase_of_drawn hb2 (le_length_fill s.color hforward hat.drawn) hsingle (fun h => absurd h hone)
    (fun _ => rfl) ?_
  rw [hfstate]
  rfl

theorem phase_of_horizontal : DecodePhase (s.horizontalAction n) := by
  have ⟨⟨_, _, hfstate⟩, _⟩ := hreads
  obtain ⟨-, hkind, -⟩ := at_control hreads hat
  have hone : s.rowKind ≠ .oneD := by rw [hkind]; decide
  exact .row hfstate ⟨hat.inside, hat.drawn, fun h => absurd h hone, nofun, fun _ => hat.inside, fun _ => hkind⟩

theorem phase_of_vertical {d : Int} (hright : s.a0 < s.b1 + d) (hinside : s.b1 + d ≤ s.columns) :
    DecodePhase (s.verticalAction n d) := by
  have ⟨⟨_, _, hfstate⟩, _⟩ := hreads
  obtain ⟨hsingle, hkind, hleft, hopen, hcol⟩ := at_control hreads hat
  have hone : s.rowKind ≠ .oneD := by rw [hkind]; decide
  have hrange : ¬ ((s.b1 : Int) + d ≤ s.a0 ∨ (s.columns : Int) < (s.b1 : Int) + d) := by omega
  obtain ⟨a, ha⟩ : ∃ a : Nat, (s.b1 : Int) + d = a := ⟨((s.b1 : Int) + d).toNat, by omega⟩
  have hforward : s.col ≤ a := by omega
  rw [State.verticalAction_eq, if_neg hrange, ha, Int.toNat_natCast]
  refine phase_of_drawn (show a ≤ s.columns by omega) (le_length_fill s.color hforward hat.drawn) hsingle
    (fun h => absurd h hone) (fun _ => rfl) ?_
  rw [hfstate]
  exact if_congr Int.ofNat_le rfl rfl

end

/-- A row's action leaves a row or a complete one. -/
theorem phase_of_rowAction {s t : State} {n : Nat} (hfstate : s.fstate = .decodingRow) (hat : InRowAt s)
    (haction : RowAction s n t) : DecodePhase t := by
  cases haction with
  | makeup hreads hrange => exact phase_of_makeup hfstate hrange hat
  | terminal hreads hrange => exact phase_of_terminal hfstate hreads hrange hat
  | pass hreads hwhole => exact phase_of_pass hreads hat hwhole
  | horizontal hreads => exact phase_of_horizontal hreads hat
  | vertical hreads hwhole hright hinside => exact phase_of_vertical hreads hat hright hinside

/-! ### The decode direction -/

theorem phase_of_rowAt {s : State} (p : Nat) (hcolumns : 1 ≤ s.cfgColumns) : DecodePhase (Spec.rowAt s p) := by
  have hwidth : 0 < s.columns := by
    unfold State.columns
    omega
  unfold Spec.rowAt
  split
  case isTrue hone =>
    have hkind : s.rowKind = .oneD := rowKind_eq_oneD_iff.mpr hone
    refine .row rfl ⟨hwidth.le, Nat.zero_le _, fun _ => hwidth, fun _ htwo => ?_, fun _ => hwidth.le,
      fun h => absurd rfl h⟩
    rw [show s.rowKind = .twoD from htwo] at hkind
    cases hkind
  case isFalse htwo =>
    have hkind : s.rowKind = .twoD := rowKind_twoD_iff.mpr htwo
    refine .row rfl ⟨hwidth.le, Nat.zero_le _, fun _ => hwidth, fun _ _ => ⟨le_rfl, ?_, rfl⟩, fun h => ?_,
      fun h => absurd rfl h⟩
    · change (-1 : Int) < s.columns
      omega
    · rw [show s.rowKind = .oneD from h rfl] at hkind
      cases hkind

theorem stopped_of_raise {s : State} (e : ErrKind) (hdir : s.dirl = .decode) : Stopped (s.raise e s.bitpos) :=
  ⟨rfl, rfl, rfl, rfl, fun _ => hdir⟩

/-- A decode step keeps the invariant or ends the call. -/
theorem decodeMove_sound {s t : State} (hs : DecodeSound s) (hmove : DecodeMove s t) : DecodeSound t ∨ Stopped t := by
  obtain ⟨hrunning, hwritten, hinside, hphase⟩ := hs
  cases hmove with
  | boundary hfstate hmove =>
    cases hphase with
    | boundary _ hsingle =>
      cases hmove with
      | finish => exact .inr ⟨rfl, rfl, rfl, hsingle, fun _ => hrunning.dir⟩
      | error => exact .inr (stopped_of_raise _ hrunning.dir)
      | @begin p _ hp =>
        refine .inl ⟨?_, ?_, ?_, phase_of_rowAt p hrunning.configured.1⟩
        · unfold Spec.rowAt
          split <;> exact ⟨hrunning.busy, hrunning.dir, hrunning.done, hrunning.err, hrunning.configured,
            hrunning.reference⟩
        · unfold Spec.rowAt
          split <;> exact hwritten
        · unfold Spec.rowAt
          split <;> exact hp
    | row hother | complete hother => rw [hfstate] at hother; cases hother
  | error => exact .inr (stopped_of_raise _ hrunning.dir)
  | row hfstate _ hbits haction =>
    cases hphase with
    | row _ hat =>
      obtain ⟨hframe, -⟩ := rowAction_frame hfstate haction
      refine .inl ⟨?_, ?_, ?_, phase_of_rowAction hfstate hat haction⟩
      · rw [hframe]
        exact ⟨hrunning.busy, hrunning.dir, hrunning.done, hrunning.err, hrunning.configured, hrunning.reference⟩
      · rw [hframe]
        exact hwritten
      · rw [hframe]
        exact hbits
    | boundary hother | complete hother => rw [hfstate] at hother; cases hother
  | last hfstate hwhole =>
    cases hphase with
    | complete _ hsingle => exact .inr ⟨rfl, rfl, rfl, hsingle, fun _ => hrunning.dir⟩
    | row hother | boundary hother => rw [hfstate] at hother; cases hother
  | next hfstate hwhole =>
    cases hphase with
    | complete _ hsingle =>
      have hcursor : ((s.storeRow s.rowidx).closeRow).bitpos ≤ 8 * s.codeBytes := by
        have hle := closeRow_bitpos_le (s.storeRow s.rowidx)
        rw [State.storeRow_bitpos] at hle
        omega
      exact .inl ⟨⟨hrunning.busy, hrunning.dir, hrunning.done, hrunning.err, hrunning.configured,
        fun _ => le_length_closeRow_ref (s := s.storeRow s.rowidx) hwhole⟩, hwritten, hcursor, .boundary rfl hsingle⟩
    | row hother | boundary hother => rw [hfstate] at hother; cases hother

/-! ### The encode direction -/

theorem cleanTail_of_closeRow {s : State} (hclean : Spec.CleanTail s.code s.bitpos) :
    Spec.CleanTail s.code s.closeRow.bitpos := by
  rw [State.closeRow_bitpos]
  split
  case isTrue =>
    intro j _ hj
    unfold alignUp at hj
    omega
  case isFalse => exact hclean

/-- Of a call the coders keep everything but the stream, the cursor and the coder's position. -/
theorem running_of_coded {s t : State} {d : Dir} (hs : Running d s) (hcoded : Coded s t) : Running d t := by
  rw [hcoded.frame]
  exact ⟨hs.busy, hs.dir, hs.done, hs.err, hs.configured, hs.reference⟩

/-- An emission inside an encode call, with the coding line and the frame state set behind it. -/
theorem encodeSound_of_coded {s u : State} {l : Line} {f : FState} (hs : EncodeSound s) (hcoded : Coded s u)
    (hphase : EncodePhase { u with cur := l, fstate := f }) : EncodeSound { u with cur := l, fstate := f } := by
  obtain ⟨hrunning, hsingle, hbitmap, hclean, -⟩ := hs
  have hrunning' := running_of_coded hrunning hcoded
  refine ⟨⟨hrunning'.busy, hrunning'.dir, hrunning'.done, hrunning'.err, hrunning'.configured, hrunning'.reference⟩,
    ?_, ?_, hcoded.clean hclean, hphase⟩
  · rw [hcoded.frame]
    exact hsingle
  · rw [hcoded.frame]
    exact hbitmap

/-- How many frame steps an encode call still takes (R524). -/
def stepsLeft (s : State) : Nat :=
  match s.fstate with
  | .awaitingSync => 3 * (s.nrows - s.rowidx) + 1
  | .decodingRow => 3 * (s.nrows - s.rowidx)
  | .rowComplete => 3 * (s.nrows - s.rowidx) - 1
  | .idle | .terminated => 0

/-- The end of an encode call (R489). -/
structure EncodeDone (t : State) : Prop where
  stopped : Stopped t
  err : t.err = .none
  length : t.codeLen = ((t.bitpos + 7) / 8 : Nat)

/-- An encode step keeps the invariant and comes one step nearer to the end, or is the last one. -/
theorem encodeMove_sound {s t : State} (hs : EncodeSound s) (hmove : EncodeMove s t) :
    (EncodeSound t ∧ stepsLeft s = stepsLeft t + 1) ∨ (EncodeDone t ∧ stepsLeft s = 1) := by
  have ⟨hrunning, hsingle, hbitmap, hclean, hphase⟩ := hs
  cases hmove with
  | @finish u hfstate hlast hcoded =>
    have hcalm : u.err = .none := (running_of_coded hrunning hcoded).err
    have hphase' : u.hphase = .none := by rw [hcoded.frame]; exact hsingle
    refine .inr ⟨⟨⟨rfl, rfl, rfl, hphase', fun h => absurd hcalm h⟩, hcalm, rfl⟩, ?_⟩
    simp only [stepsLeft, hfstate]
    omega
  | @load u row hfstate hmore hlength hcoded =>
    cases hphase with
    | boundary _ hrows =>
      have hcounts : u.rowidx = s.rowidx ∧ u.nrows = s.nrows ∧ u.columns = s.columns := by
        rw [hcoded.frame]
        exact ⟨rfl, rfl, rfl⟩
      obtain ⟨hrowidx, hnrows, hcolumns⟩ := hcounts
      refine .inl ⟨encodeSound_of_coded hs hcoded (.row rfl ?_ (le_length_overwrite _ ?_)), ?_⟩
      · change u.rowidx < u.nrows
        omega
      · exact (hcolumns.trans hlength.symm).le
      · simp only [stepsLeft, hfstate, hrowidx, hnrows]
    | row hother | complete hother => rw [hfstate] at hother; cases hother
  | @code u hfstate hwhole hcoded =>
    cases hphase with
    | row _ hrows hwhole =>
      have hcounts : u.rowidx = s.rowidx ∧ u.nrows = s.nrows ∧ u.columns = s.columns ∧ u.cur = s.cur := by
        rw [hcoded.frame]
        exact ⟨rfl, rfl, rfl, rfl⟩
      obtain ⟨hrowidx, hnrows, hcolumns, hcur⟩ := hcounts
      refine .inl ⟨encodeSound_of_coded (l := u.cur) hs hcoded (.complete rfl ?_ ?_), ?_⟩
      · change u.rowidx < u.nrows
        omega
      · change u.columns ≤ u.cur.length
        rwa [hcolumns, hcur]
      · simp only [stepsLeft, hfstate, hrowidx, hnrows]
        omega
    | boundary hother | complete hother => rw [hfstate] at hother; cases hother
  | close hfstate hwhole =>
    cases hphase with
    | complete _ hrows =>
      refine .inl ⟨⟨⟨hrunning.busy, hrunning.dir, hrunning.done, hrunning.err, hrunning.configured,
        fun _ => le_length_closeRow_ref hwhole⟩, hsingle, hbitmap, cleanTail_of_closeRow hclean,
        .boundary rfl hrows⟩, ?_⟩
      simp only [stepsLeft, hfstate, State.closeRow]
      omega
    | row hother | boundary hother => rw [hfstate] at hother; cases hother

end Sys2Proof.Proofs
end

section
/-! The invariant of R44 over all of the machine's moves, and the progress of an engine that meets it (R45, R524). -/

namespace Sys2Proof.Proofs

open Sys2Proof.Machine

/-! ### START -/

/-- The reference line of a G4 call is white to its end. -/
theorem le_length_startCall_ref {s : State} (d : Dir) (hg4 : s.cfgK < 0) :
    s.columns ≤ (s.startCall d).ref.length := by
  have href : (s.startCall d).ref = s.ref.overwrite (List.replicate s.columns .white) :=
    congrArg State.ref (if_pos hg4)
  rw [href]
  exact le_length_overwrite _ List.length_replicate.ge

theorem running_startCall {s : State} (d : Dir) (hcolumns : 1 ≤ s.cfgColumns) (hrows : 0 ≤ s.cfgRows) :
    Running d (s.startCall d) := by
  have href : s.cfgK < 0 → s.columns ≤ (s.startCall d).ref.length := le_length_startCall_ref d
  rw [startCall_frame]
  exact ⟨rfl, rfl, rfl, rfl, ⟨hcolumns, hrows⟩, fun h => h.elim (absurd · (Nat.lt_irrefl 0)) href⟩

theorem rowsToEncode_le (s : State) : s.rowsToEncode ≤ s.suppliedRows := by
  unfold State.rowsToEncode
  split
  · exact min_le_right _ _
  · exact le_rfl

theorem cleanTail_zero (m : Memory) : Spec.CleanTail m 0 := fun j _ hj => by omega

theorem encodeSound_startEncode {s : State} (hadmitted : s.notAdmitted .encode = none) :
    EncodeSound s.startEncode := by
  obtain ⟨-, hcolumns, hrows, -, hready, -⟩ := State.notAdmitted_eq_none.mp hadmitted
  obtain ⟨-, -, hcovers⟩ := bitmapReady_iff.mp hready
  refine ⟨running_startCall .encode hcolumns hrows, State.startCall_hphase _ _, ?_, ?_,
    .boundary (State.startCall_fstate _ _) ?_⟩
  · rw [State.startEncode, startCall_frame]
    have hcells := bitmapCovers_iff.mp hcovers
    exact bitmapCovers_iff.mpr fun a ha =>
      hcells a (Nat.lt_of_lt_of_le ha (Nat.mul_le_mul_right s.columns (rowsToEncode_le s)))
  · rw [State.startEncode, startCall_frame]
    exact cleanTail_zero _
  · rw [State.startEncode, State.startCall_rowidx]
    exact Nat.zero_le _

theorem decodeSound_startDecode {s : State} (hadmitted : s.notAdmitted .decode = none) :
    DecodeSound s.startDecode := by
  obtain ⟨-, hcolumns, hrows, -, hready, -⟩ := State.notAdmitted_eq_none.mp hadmitted
  obtain ⟨-, -, hwritten⟩ := streamReady_iff.mp hready
  refine ⟨running_startCall .decode hcolumns hrows, ?_, ?_,
    .boundary (State.startCall_fstate _ _) (State.startCall_hphase _ _)⟩
  · rw [State.startDecode, startCall_frame]
    exact (Memory.writtenBelow_iff _ _).mp hwritten
  · rw [State.startDecode, startCall_frame]
    exact Nat.zero_le _

/-! ### The invariant -/

/-- Settles O57: the block is idle, its memories empty. -/
theorem resetIsSound : Obligations.ResetIsSound :=
  sound_of_idle reset_memories_wf ⟨rfl, rfl, fun h => absurd rfl h⟩ rfl rfl

/-- The invariant does not speak of the host. -/
theorem sound_of_host {s : State} (h : List HostMove) (v : Int) (hs : s.Sound) :
    { s with host := h, hostData := v }.Sound :=
  ⟨hs.memories, hs.status, hs.configured, hs.pair, hs.reference, hs.stream, hs.wholeRow, hs.position,
    hs.bitmap, hs.tail⟩

/-- An access of an idle block leaves it idle or starts a call. -/
theorem sound_of_idleAccess {s t : State} {a : Access} (hs : s.Sound) (hidle : s.busy = false)
    (hmemories : t.MemoriesCanonical) (haccess : s.idleAccess a = .next t) : t.Sound := by
  obtain ⟨v, rfl, hv, hwrite⟩ | ⟨hbusy, hdone, hdir, hfstate, herr, hphase⟩ := idleAccess_cases haccess
  · obtain ⟨hadmitted, rfl⟩ | ⟨hadmitted, rfl⟩ := started_of_writeCtrl hv hwrite
    · exact sound_of_encodeSound hmemories (encodeSound_startEncode hadmitted)
    · exact sound_of_decodeSound hmemories (decodeSound_startDecode hadmitted)
  · have hsingle : s.hphase = .none := by_contra fun hpair =>
      Bool.noConfusion (hidle.symm.trans (hs.pair hpair).1)
    refine sound_of_idle hmemories ?_ (hbusy.trans hidle) (hphase.trans hsingle)
    rw [State.StatusConsistent, hbusy, hdone, hfstate, herr, hdir]
    exact hs.status

/-- Settles O58: by the machine's moves. -/
theorem everyStepKeepsSoundness : Obligations.EveryStepKeepsSoundness := by
  intro s t hs hstep
  have hmemories := everyStepKeepsMemoriesCanonical s t hs.memories hstep
  cases machineMove_of_step hstep with
  | @decode h _ hbusy hdir hmove =>
    have hsound := decodeSound_of_sound (sound_of_host h s.hostData hs) hbusy hdir
    obtain hnext | hstopped := decodeMove_sound hsound hmove
    · exact sound_of_decodeSound hmemories hnext
    · exact sound_of_stopped hmemories hstopped
  | @encode h _ hbusy hdir hmove =>
    have hsound := encodeSound_of_sound (sound_of_host h s.hostData hs) hbusy hdir
    obtain ⟨hnext, -⟩ | ⟨hdone, -⟩ := encodeMove_sound hsound hmove
    · exact sound_of_encodeSound hmemories hnext
    · exact sound_of_stopped hmemories hdone.stopped
  | none h v => exact sound_of_host h v hs
  | @access a h _ hidle _ haccess => exact sound_of_idleAccess (sound_of_host h s.hostData hs) hidle hmemories haccess
  | reset => exact sound_of_idle hmemories ⟨rfl, rfl, fun h => absurd rfl h⟩ rfl rfl

/-! ### Progress in the decode direction -/

/-- A run code is a step or an error stop; it never stops the engine. -/
theorem runCode_is_step (s : State) (i : Instr) (act : State → State) : ∃ t, s.runCode i act = .next t := by
  obtain ⟨-, h⟩ | ⟨-, -, h⟩ | ⟨-, -, h⟩ := s.runCode_cases i act <;> exact ⟨_, h⟩

/-- So is a control code over a whole reference line. -/
theorem controlCode_is_step {s : State} (i : Instr) (act : State → State) (hreads : Spec.ReadsControl s)
    (hwhole : s.columns ≤ s.ref.length) : ∃ t, s.controlCode i act = .next t := by
  rw [State.controlCode, State.inContext_of (context_ctrl2d_iff_readsControl.mpr hreads)]
  split
  · exact ⟨_, rfl⟩
  · rw [if_neg hwhole.not_gt]
    exact ⟨_, rfl⟩

/-- Inside a row something is read, and every codeword it can be has a meaning there. -/
theorem exists_context_of_inRow {s : State} (hs : DecodeSound s) (hfstate : s.fstate = .decodingRow) :
    ∃ c, s.context = some c ∧ ∀ i, i ∈ c.codewords → ∃ t, exec i s = .next t := by
  have hrunning := hs.running
  have hrow : Spec.InRow s := ⟨hrunning.busy, hrunning.dir, hfstate⟩
  by_cases hcontrol : s.hphase = .none ∧ s.rowKind = .twoD
  · obtain ⟨hsingle, hkind⟩ := hcontrol
    have hreads : Spec.ReadsControl s := ⟨hrow, hsingle, rowKind_twoD_iff.mp hkind⟩
    refine ⟨_, context_ctrl2d_iff_readsControl.mpr hreads, fun i hi => ?_⟩
    obtain ⟨act, hexec⟩ := exec_control hi s
    rw [hexec]
    exact controlCode_is_step i act hreads (reference_of_twoD hrunning hkind)
  · have hreads : Spec.ReadsRun s.color s :=
      ⟨hrow, rfl, fun hsingle => rowKind_eq_oneD_iff.mp (readsRun_iff_not_control.mpr hcontrol hsingle)⟩
    refine ⟨_, context_ofColour_iff_readsRun.mpr hreads, fun i hi => ?_⟩
    rw [codewords_ofColour_eq_rows] at hi
    obtain ⟨⟨i, r, n⟩, htable, rfl⟩ := List.mem_map.mp hi
    obtain ⟨-, -, act, hexec⟩ := exec_runRow htable hreads
    rw [hexec]
    exact runCode_is_step s i act

/-- A fetch inside a row is a step. -/
theorem decodeStep_is_step {s : State} {c : Context} (hwritten : Spec.Written s.code s.codeBytes)
    (hmeaning : ∀ i, i ∈ c.codewords → ∃ t, exec i s = .next t) : ∃ t, s.decodeStep c = .next t := by
  obtain ⟨f, hfetch⟩ := exists_fetch hwritten s.bitpos
  obtain ⟨hnone, -⟩ | ⟨f, -, ⟨i, hdecode, hanswer⟩ | ⟨-, hanswer⟩ | ⟨why, -, -, hanswer⟩⟩ := s.decodeStep_cases c
  · rw [hfetch] at hnone
    cases hnone
  · obtain ⟨hi, -⟩ := decodedCodewordsAreSpelled c i _ _ hdecode
    rw [hanswer]
    exact hmeaning i hi
  · exact ⟨_, hanswer⟩
  · exact ⟨_, hanswer⟩

theorem decode_progress {s : State} (hs : DecodeSound s) (hhost : s.host = []) (hroom : s.params.pixBytes = none) :
    ∃ t, step s = .next t := by
  have hrunning := hs.running
  cases hs.phase with
  | boundary hfstate =>
    obtain ⟨t, hstep, -⟩ :=
      decodeAtARowBoundary s hhost ⟨hrunning.busy, hrunning.dir, hfstate⟩ hs.written
    exact ⟨t, hstep⟩
  | row hfstate =>
    obtain ⟨c, hcontext, hmeaning⟩ := exists_context_of_inRow hs hfstate
    rw [step_decoding hhost hrunning.busy hrunning.dir, decodeEngineStep_decodingRow hfstate hcontext]
    exact decodeStep_is_step hs.written hmeaning
  | complete hfstate _ hwhole =>
    rw [step_decoding hhost hrunning.busy hrunning.dir, decodeEngineStep_rowComplete hfstate,
      decodeRowComplete_of hwhole (by rw [hroom]; rfl)]
    exact ⟨_, rfl⟩

/-! ### Progress in the encode direction -/

theorem toColours_isSome {b : Bool} {bs : List Byte} (hbytes : ∀ v, v ∈ bs → v = 0x00#8 ∨ v = 0x01#8) :
    ∃ row, toColours b bs = some row := by
  induction bs with
  | nil => exact ⟨[], rfl⟩
  | cons v bs ih =>
    obtain ⟨row, hrow⟩ := ih fun x hx => hbytes x (List.mem_cons_of_mem v hx)
    obtain ⟨c, hc⟩ := Option.isSome_iff_exists.mp (isSome_toColour_iff (b := b).mpr (hbytes v List.mem_cons_self))
    exact ⟨c :: row, by rw [toColours, hc, hrow]⟩

/-- A row of the supplied bitmap can be loaded. -/
theorem exists_row_of_bitmap {s : State} (hbitmap : s.bitmapCovers s.nrows = true) (hmore : s.rowidx < s.nrows) :
    ∃ bs row, s.rowBytes s.rowidx = some bs ∧ toColours s.blackIs1 bs = some row := by
  have hcell : ∀ k, k < s.columns → s.pix.read (s.rowidx * s.columns + k) = some 0x00#8 ∨
      s.pix.read (s.rowidx * s.columns + k) = some 0x01#8 := fun k hk => by
    have hrows : (s.rowidx + 1) * s.columns ≤ s.nrows * s.columns := Nat.mul_le_mul_right _ hmore
    rw [Nat.succ_mul] at hrows
    exact bitmapCovers_iff.mp hbitmap _ (by omega)
  have hwritten : (s.rowBytes s.rowidx).isSome := Memory.readBlock_isSome fun k hk => by
    obtain h | h := hcell k hk <;> rw [h] <;> rfl
  obtain ⟨bs, hbs⟩ := Option.isSome_iff_exists.mp hwritten
  obtain ⟨hlength, hread⟩ := Memory.readBlock_eq_some hbs
  obtain ⟨row, hrow⟩ := toColours_isSome (b := s.blackIs1) (bs := bs) fun v hv => by
    obtain ⟨k, hk, rfl⟩ := List.getElem_of_mem hv
    have hget := hread k (hlength ▸ hk)
    rw [List.getElem?_eq_getElem hk] at hget
    simpa [hget] using hcell k (hlength ▸ hk)
  exact ⟨bs, row, hbs, hrow⟩

theorem encode_progress {s : State} (hs : EncodeSound s) (hhost : s.host = []) (hroom : s.params.codeBytes = none) :
    ∃ t, step s = .next t := by
  obtain ⟨hrunning, -, hbitmap, hclean, hphase⟩ := hs
  have hunbounded : ∀ t, Coded s t → t.params.codeBytes = none := fun t hcoded => by rw [hcoded.frame]; exact hroom
  rw [step_encoding hhost hrunning.busy hrunning.dir]
  cases hphase with
  | boundary hfstate hrows =>
    rw [encodeEngineStep_awaitingSync hfstate]
    obtain hlast | hmore := hrows.eq_or_lt
    · obtain ⟨t, hemitted, -⟩ := exists_emitAll (terminator s) hclean
      exact ⟨_, encodeAwaitingSync_last hlast hemitted (hunbounded t (coded_emitAll hemitted))⟩
    · obtain ⟨bs, row, hbytes, hrow⟩ := exists_row_of_bitmap hbitmap hmore
      obtain ⟨t, hemitted, -⟩ := exists_emitAll (rowPrefixCodes s) hclean
      exact ⟨_, encodeAwaitingSync_row hmore.ne hbytes hrow hemitted (hunbounded t (coded_emitAll hemitted))⟩
  | row hfstate hrows hwhole =>
    rw [encodeEngineStep_decodingRow hfstate]
    obtain hkind | hkind := oneD_or_twoD s.rowKind
    · have hline : 1 ≤ s.columns := by
        have hcolumns := hrunning.configured.1
        unfold State.columns
        omega
      obtain ⟨t, -, -, hcoded, -⟩ := exists_encodeRow1D hline hwhole hclean
      exact ⟨_, encodeDecodingRow_oneD (rowKind_eq_oneD_iff.mp hkind) hwhole hcoded
        (hunbounded t (coded_encodeRow (.inl hcoded)))⟩
    · have hreference := reference_of_twoD hrunning hkind
      obtain ⟨-, t, -, hcoded⟩ := exists_encodeRow2D hrunning.configured.1 hwhole hreference hclean
      exact ⟨_, encodeDecodingRow_twoD (rowKind_twoD_iff.mp hkind) hwhole hreference hcoded
        (hunbounded t (coded_encodeRow (.inr hcoded)))⟩
  | complete hfstate _ hwhole =>
    rw [encodeEngineStep_rowComplete hfstate, encodeRowComplete_of hwhole]
    exact ⟨_, rfl⟩

/-- Settles O59: the engine of an idle block does nothing; that of a running call goes on. -/
theorem aSoundEngineNeverStops : Obligations.ASoundEngineNeverStops := by
  intro s hs hhost hparams
  obtain hbusy | hidle := Bool.eq_false_or_eq_true s.busy
  · cases hdir : s.dirl with
    | decode => exact decode_progress (decodeSound_of_sound hs hbusy hdir) hhost (by rw [hparams])
    | encode => exact encode_progress (encodeSound_of_sound hs hbusy hdir) hhost (by rw [hparams])
  · exact ⟨s, anIdleEngineDoesNothing s hidle hhost⟩

end Sys2Proof.Proofs
end

section
/-! A whole call (R524): an encode call by the number of its frame steps, a decode call by the bits of its stream. -/

namespace Sys2Proof.Proofs

open Sys2Proof.Machine

theorem run_succ {s t : State} (hstep : step s = .next t) (n : Nat) : run (n + 1) s = run n t := by
  rw [run, hstep]

/-! ### An encode call -/

theorem stepsLeft_pos {s : State} (hs : EncodeSound s) : 0 < stepsLeft s := by
  cases hs.phase with
  | boundary hfstate => simp only [stepsLeft, hfstate]; omega
  | row hfstate hrows => simp only [stepsLeft, hfstate]; omega
  | complete hfstate hrows => simp only [stepsLeft, hfstate]; omega

theorem encode_step {s : State} (hs : EncodeSound s) (hhost : s.host = []) (hroom : s.params.codeBytes = none) :
    ∃ t, step s = .next t ∧ EncodeMove s t := by
  obtain ⟨t, hstep⟩ := encode_progress hs hhost hroom
  have hengine := (step_encoding hhost hs.running.busy hs.running.dir).symm.trans hstep
  exact ⟨t, hstep, encodeMove_of_step hengine⟩

/-- From every state of an encode call: it is busy for as many steps as are left, and then done. -/
theorem encodeCall_run {n : Nat} {s : State} (hs : EncodeSound s) (hhost : s.host = [])
    (hroom : s.params.codeBytes = none) (hleft : stepsLeft s = n + 1) :
    (∀ k, k < n + 1 → ∃ u : State, run k s = .next u ∧ u.busy = true) ∧
      ∃ t : State, run (n + 1) s = .next t ∧ EncodeDone t ∧ t.pix = s.pix ∧ t.pixRows = s.pixRows := by
  induction n generalizing s with
  | zero =>
    obtain ⟨t, hstep, hmove⟩ := encode_step hs hhost hroom
    refine ⟨fun k hk => ⟨s, by rw [Nat.lt_one_iff.mp hk]; rfl, hs.running.busy⟩, t, run_succ hstep 0, ?_⟩
    obtain ⟨hnext, hcount⟩ | ⟨hdone, -⟩ := encodeMove_sound hs hmove
    · have hpos := stepsLeft_pos hnext
      omega
    · refine ⟨hdone, ?_⟩
      rw [encodeMove_frame hmove]
      exact ⟨rfl, rfl⟩
  | succ n ih =>
    obtain ⟨t, hstep, hmove⟩ := encode_step hs hhost hroom
    obtain ⟨hnext, hcount⟩ | ⟨-, hcount⟩ := encodeMove_sound hs hmove
    · have hkept : t.host = s.host ∧ t.params = s.params ∧ t.pix = s.pix ∧ t.pixRows = s.pixRows := by
        rw [encodeMove_frame hmove]
        exact ⟨rfl, rfl, rfl, rfl⟩
      obtain ⟨hhost', hparams, hpix, hpixRows⟩ := hkept
      obtain ⟨hbusy, u, hrun, hdone, hpix', hpixRows'⟩ :=
        ih hnext (hhost'.trans hhost) (by rw [hparams]; exact hroom) (by omega)
      refine ⟨fun k hk => ?_, u, (run_succ hstep _).trans hrun, hdone, hpix'.trans hpix, hpixRows'.trans hpixRows⟩
      cases k with
      | zero => exact ⟨s, rfl, hs.running.busy⟩
      | succ k => rw [run_succ hstep]; exact hbusy k (Nat.lt_of_succ_lt_succ hk)
    · omega

/-- Settles O41: the run of the call that START begins. -/
theorem encodeCallCompletes : Obligations.EncodeCallCompletes := by
  intro s hhost hparams hadmitted
  have hstart := encodeSound_startEncode hadmitted
  have hkept : s.startEncode.host = s.host ∧ s.startEncode.params = s.params ∧ s.startEncode.pix = s.pix ∧
      s.startEncode.pixRows = s.pixRows ∧ stepsLeft s.startEncode = 3 * s.rowsToEncode + 1 := by
    rw [State.startEncode, startCall_frame]
    exact ⟨rfl, rfl, rfl, rfl, rfl⟩
  obtain ⟨hhost', hparams', hpix, hpixRows, hleft⟩ := hkept
  obtain ⟨hbusy, t, hrun, hdone, hpix', hpixRows'⟩ :=
    encodeCall_run hstart (hhost'.trans hhost) (by rw [hparams', hparams]) hleft
  obtain ⟨hstopped, herr, hlength⟩ := hdone
  exact ⟨hbusy, t, hrun, hstopped.idle, hstopped.done, hstopped.fstate, herr, hlength, hpix'.trans hpix,
    hpixRows'.trans hpixRows⟩

/-! ### A decode call -/

/-- A bound of the steps a decode call still takes: three for every bit of the stream that is left, and those of the row
it is in. -/
def workLeft (s : State) : Nat :=
  match s.fstate with
  | .awaitingSync => 3 * (8 * s.codeBytes - s.bitpos) + 2
  | .decodingRow => 3 * (8 * s.codeBytes - s.bitpos) + 1
  | .rowComplete => 3 * (8 * s.codeBytes - s.bitpos) + 3
  | .idle | .terminated => 0

/-- Every step of a running decode call leaves less to do, or ends the call. -/
theorem workLeft_lt {s t : State} (hmove : DecodeMove s t) (hnext : DecodeSound t) : workLeft t < workLeft s := by
  have hforward := decodeMove_forward hmove
  cases hmove with
  | boundary hfstate hmove =>
    cases hmove with
    | finish => exact absurd hnext.running.busy nofun
    | error => exact absurd hnext.running.busy nofun
    | @begin p _ hp =>
      have hrow : (Spec.rowAt s p).fstate = .decodingRow ∧ (Spec.rowAt s p).codeBytes = s.codeBytes := by
        unfold Spec.rowAt
        split <;> exact ⟨rfl, rfl⟩
      obtain ⟨hrow, hstream⟩ := hrow
      simp only [workLeft, hfstate, hrow, hstream]
      omega
  | error => exact absurd hnext.running.busy nofun
  | @row n _ hfstate hpos hinside haction =>
    obtain ⟨hframe, hfstate'⟩ := rowAction_frame hfstate haction
    have hkept : t.bitpos = s.bitpos + n ∧ t.codeBytes = s.codeBytes := by
      rw [hframe]
      exact ⟨rfl, rfl⟩
    obtain ⟨hcursor, hstream⟩ := hkept
    obtain hstay | hdone := hfstate'
    · simp only [workLeft, hfstate, hstay, hcursor, hstream]
      omega
    · simp only [workLeft, hfstate, hdone, hcursor, hstream]
      omega
  | last => exact absurd hnext.running.busy nofun
  | next hfstate hwhole =>
    have hstream : (s.storeRow s.rowidx).closeRow.codeBytes = s.codeBytes := rfl
    change 3 * (8 * (s.storeRow s.rowidx).closeRow.codeBytes - (s.storeRow s.rowidx).closeRow.bitpos) + 2 < _
    have hforward : s.bitpos ≤ (s.storeRow s.rowidx).closeRow.bitpos := hforward
    simp only [workLeft, hfstate, hstream]
    omega

theorem decode_step {s : State} (hs : DecodeSound s) (hhost : s.host = []) (hroom : s.params.pixBytes = none) :
    ∃ t, step s = .next t ∧ DecodeMove s t := by
  obtain ⟨t, hstep⟩ := decode_progress hs hhost hroom
  have hengine := (step_decoding hhost hs.running.busy hs.running.dir).symm.trans hstep
  exact ⟨t, hstep, decodeMove_of_step hengine⟩

/-- Two states with the same stream and the same configuration. -/
structure SameInput (s t : State) : Prop where
  stream : t.code = s.code ∧ t.codeLen = s.codeLen
  configuration : t.cfgK = s.cfgK ∧ t.cfgFlags = s.cfgFlags ∧ t.cfgColumns = s.cfgColumns ∧ t.cfgRows = s.cfgRows ∧
    t.cfgDamaged = s.cfgDamaged
  surroundings : t.host = s.host ∧ t.params = s.params

theorem SameInput.trans {s t u : State} (hst : SameInput s t) (htu : SameInput t u) : SameInput s u := by
  obtain ⟨⟨h1, h2⟩, ⟨h3, h4, h5, h6, h7⟩, h8, h9⟩ := hst
  obtain ⟨⟨k1, k2⟩, ⟨k3, k4, k5, k6, k7⟩, k8, k9⟩ := htu
  exact ⟨⟨k1.trans h1, k2.trans h2⟩, ⟨k3.trans h3, k4.trans h4, k5.trans h5, k6.trans h6, k7.trans h7⟩,
    k8.trans h8, k9.trans h9⟩

theorem sameInput_of_decodeMove {s t : State} (hmove : DecodeMove s t) : SameInput s t := by
  rw [decodeMove_frame hmove]
  exact ⟨⟨rfl, rfl⟩, ⟨rfl, rfl, rfl, rfl, rfl⟩, rfl, rfl⟩

theorem workLeft_pos {s : State} (hs : DecodeSound s) : 0 < workLeft s := by
  cases hs.phase with
  | boundary hfstate | row hfstate | complete hfstate => simp only [workLeft, hfstate]; omega

/-- From every state of a decode call: it ends within the steps that bound it, on the same input. -/
theorem decodeCall_run {s : State} (hs : DecodeSound s) (hhost : s.host = []) (hroom : s.params.pixBytes = none) :
    ∃ (n : Nat) (t : State), n ≤ workLeft s ∧ run n s = .next t ∧ Stopped t ∧ SameInput s t := by
  induction hleft : workLeft s using Nat.strong_induction_on generalizing s with
  | _ w ih =>
    obtain ⟨t, hstep, hmove⟩ := decode_step hs hhost hroom
    have hsame := sameInput_of_decodeMove hmove
    obtain hnext | hstopped := decodeMove_sound hs hmove
    · have hless := workLeft_lt hmove hnext
      obtain ⟨hhost', hparams⟩ := hsame.surroundings
      obtain ⟨n, u, hn, hrun, hstopped, hsame'⟩ :=
        ih (workLeft t) (by omega) hnext (hhost'.trans hhost) (by rw [hparams]; exact hroom) rfl
      exact ⟨n + 1, u, by omega, (run_succ hstep n).trans hrun, hstopped, hsame.trans hsame'⟩
    · have hpos := workLeft_pos hs
      exact ⟨1, t, by omega, run_succ hstep 0, hstopped, hsame⟩

/-- Settles O42: the run of the call that START begins, at the beginning of the stream. -/
theorem decodeCallTerminates : Obligations.DecodeCallTerminates := by
  intro s hhost hparams hadmitted
  have hkept : workLeft s.startDecode = 3 * (8 * s.codeBytes - 0) + 2 ∧ SameInput s s.startDecode := by
    rw [State.startDecode, startCall_frame]
    exact ⟨rfl, ⟨rfl, rfl⟩, ⟨rfl, rfl, rfl, rfl, rfl⟩, rfl, rfl⟩
  obtain ⟨hwork, hsame⟩ := hkept
  obtain ⟨hhost', hparams'⟩ := hsame.surroundings
  obtain ⟨n, t, hn, hrun, hstopped, hsame'⟩ :=
    decodeCall_run (decodeSound_startDecode hadmitted) (hhost'.trans hhost) (by rw [hparams', hparams])
  obtain ⟨⟨hcode, hlen⟩, ⟨hk, hflags, hcolumns, hrows, hdamaged⟩, -⟩ := hsame.trans hsame'
  have hbound : n ≤ 24 * s.codeLen.toNat + 3 := by
    unfold State.codeBytes at hwork
    omega
  exact ⟨n, t, hbound, hrun, hstopped.idle, hstopped.done, hstopped.fstate, hcode, hlen, hk, hflags, hcolumns, hrows,
    hdamaged⟩

end Sys2Proof.Proofs
end
